-- ==== Sys2Proof/Word.lean ====
section
/-! DEFINITION. The words of the part: bytes of frames, plant times, and the small numbers that wrap
(spec/00_scope.md, Units and Numbering). -/

namespace Sys2Proof

/-- One byte of a frame on either link (R172, R175). -/
abbrev Byte := BitVec 8

/-- A plant time in ticks: 32 bits, wrapping after 2^32 ticks (R43). -/
abbrev Time := BitVec 32

/-- The number of a slot's life, 0..255, wrapping (R4). -/
abbrev Generation := BitVec 8

/-- The number of a correction of one slot, 0..7, wrapping (R9, R126). -/
abbrev Epoch := BitVec 3

/-- A lane, 0..3. -/
abbrev LaneId := Fin 4

/-- A bank of the station table, 0..3 (R28). -/
abbrev BankId := Fin 4

/-- A profile, 0..7 (R142). -/
abbrev ProfileId := Fin 8

end Sys2Proof
end

