-- ==== Sys2Proof/Syntax.lean ====
section
/-! DEFINITION. The commands of the part: one constructor for each row of spec/opcode_table.json, and the
data that comes with them from outside (what the sample lanes show). -/

namespace Sys2Proof

/-- One complex equaliser tap, or one soft symbol: a real and an imaginary component (R6). -/
structure Tap where
  re : Int
  im : Int
deriving DecidableEq, Repr

/-- The eight taps of an equaliser set, by index; index 2 is the main tap (R6). -/
structure TapSet where
  t0 : Tap
  t1 : Tap
  t2 : Tap
  t3 : Tap
  t4 : Tap
  t5 : Tap
  t6 : Tap
  t7 : Tap
deriving DecidableEq, Repr

/-- One correlation peak: its position in subticks from G × 32, and its level in qdB (R74, R76). -/
structure Peak where
  offset : Int
  level : Int
deriving DecidableEq, Repr

/-- What a lane's samples show of one burst, before any saturation: the correlation peaks, the level over the
preamble at the strongest one, the frequency offset, the MER, the taps the training gives, and the soft symbols
(R74 to R79, R81). Log entries 7 and 8. -/
structure Samples where
  peaks : List Peak
  power : Int
  freq : Int
  mer : Int
  trained : TapSet
  symbols : List Tap
deriving DecidableEq, Repr

/-- The commands. Each is one whole step of the part (spec/95_what_each_step_holds.md). The fields of a request
stand in its frame, which REQUEST_ARRIVAL brings; its own row is the command engine's step (log entry 6). -/
inductive Instr where
  /-- RESET (R11): RESET_N or power-on. -/
  | reset
  /-- TICK (R43): one period of the 20 MHz reference. -/
  | tick
  /-- SYNC_PULSE (R45). The operands order what R46 and R81 leave open at a slip: whose report, and whose
  symbol-port unit, comes next (log entry 9). -/
  | syncPulse (reportOrder unitOrder : List LaneId)
  /-- GRANT_NOTICE (R51): one frame of the schedule link. -/
  | grantNotice (frame : List Byte)
  /-- GRANT_HANDOVER (R55): the head of a lane's grant queue. -/
  | grantHandover (lane : LaneId)
  /-- LOOKUP_READ_COMPLETE (R69): the bank's read in progress is a lane's lookup, and it completes. -/
  | lookupReadComplete (bank : BankId)
  /-- WINDOW_OPEN (R70): the count has reached the start of a grant whose lookup is unanswered. -/
  | windowOpen (lane : LaneId)
  /-- BURST_COMPLETE (R73): the grant being received is done; the samples show what the operand says. -/
  | burstComplete (lane : LaneId) (samples : Samples)
  /-- SYMBOL_UNIT_EMITTED (R81). -/
  | symbolUnitEmitted
  /-- QUIET_START (R154). -/
  | quietStart (lane : LaneId)
  /-- QUIET_GRANT_DONE (R54): a passed-over QUIET grant is done. -/
  | quietGrantDone (lane : LaneId)
  /-- NOISE_LATCH (R157): a measurement completes with this noise power in qdB, before saturation. -/
  | noiseLatch (lane : LaneId) (power : Int)
  /-- INTERVAL_MARK (R155). -/
  | intervalMark (lane : LaneId)
  /-- BANK_READ_COMPLETE (R36). -/
  | bankReadComplete (bank : BankId)
  /-- DRAIN (R35): a drain completes. -/
  | drain (bank : BankId)
  /-- POST_TAKES_ENTRY (R34). -/
  | postTakesEntry (bank : BankId)
  /-- HOLD_TAKEN (R40). -/
  | holdTaken (slot : Nat)
  /-- UPDATE_TAKE_RESULT (R84). -/
  | updateTakeResult
  /-- UPDATE_PROCESS (R87). -/
  | updateProcess
  /-- DEADLINE_EXPIRE (R128): the deadline entry of this slot. -/
  | deadlineExpire (slot : Nat)
  /-- WITHDRAWAL_START (R129). -/
  | withdrawalStart
  /-- CORRECTION_WITHDRAW (R130). -/
  | correctionWithdraw
  /-- REQUEST_ARRIVAL (R166): one frame of the station link's incoming direction. -/
  | requestArrival (frame : List Byte)
  /-- BAD_REQUEST (R165). -/
  | badRequest
  /-- ADMIT (R17). -/
  | admitStation
  /-- RETIRE (R18). -/
  | retire
  /-- MOVE (R19). -/
  | move
  /-- RECOVER (R21). -/
  | recover
  /-- AMEND (R22). -/
  | amend
  /-- FETCH (R23). -/
  | fetch
  /-- MAP_TAGS (R14). -/
  | mapTags
  /-- UNMAP_TAGS (R15). -/
  | unmapTags
  /-- CLEAR_ALL (R24). -/
  | clearAll
  /-- CLEAR_ALL_SLOT (R24): the walk's work on one slot. -/
  | clearAllSlot
  /-- DELIVERED (R131). -/
  | delivered
  /-- PROFILE_SET (R144). -/
  | profileSet
  /-- PROFILE_GET (R146). -/
  | profileGet
  /-- LANE_SET (R63). -/
  | laneSet
  /-- LANE_START (R64). -/
  | laneStart
  /-- LANE_STOP (R65). -/
  | laneStop
  /-- NOISE_MODE (R153). -/
  | noiseMode
  /-- NOISE_STATUS (R163). -/
  | noiseStatus
  /-- CLOCK_SET (R44). -/
  | clockSet
  /-- SWEEP (R176). -/
  | sweep
  /-- SWEEP_STOP (R181). -/
  | sweepStop
  /-- SWEEP_STATUS (R182). -/
  | sweepStatus
  /-- SWEEP_READ_COMPLETE (R177). -/
  | sweepReadComplete
  /-- SWEEP_FRAME_OFFER (R178). -/
  | sweepFrameOffer
  /-- SWEEP_END (R179). -/
  | sweepEnd
  /-- SWEEP_DEADLINE_EXPIRE (R180). -/
  | sweepDeadlineExpire
  /-- ALERT_READ (R186). -/
  | alertRead
  /-- ALERT_ACK (R187). -/
  | alertAck
  /-- ALERT_SET (R188). -/
  | alertSet
  /-- OUTGOING_FRAME_END (R169). -/
  | outgoingFrameEnd
deriving DecidableEq, Repr

end Sys2Proof
end

