-- ==== Sys2Proof/Decode.lean ====
section
/-! DEFINITION. The decoder of table words. spec/opcode_table.json gives no row any bits, so no word spells a
command (log entry 22). The frames that carry fields are decoded in Sys2Proof/Machine/Operands.lean. -/

namespace Sys2Proof

/-- The command a table word spells: none, since the table gives no row a mask, a match or a field. -/
def decodeTableWord (nbits w : Nat) : Option Instr :=
  match nbits, w with
  | _, _ => none

end Sys2Proof
end

