-- ==== Sys2Proof/Config.lean ====
section
/-! DEFINITION. The sizes the part is built with. The spec fixes every one of them; the model has no free value. -/

namespace Sys2Proof.Config

/-- Slots of the station table (R2). -/
def slots : Nat := 1024
/-- Tags of the tag map (R12). -/
def tags : Nat := 16384
/-- Tags one station may hold (R12). -/
def tagsPerStation : Nat := 8
/-- Grants in one lane's queue (R50). -/
def grantQueue : Nat := 32
/-- Grants one lane holds (R54). -/
def heldGrants : Nat := 2
/-- Results in one lane's result holder (R83). -/
def resultHolder : Nat := 2
/-- Entries of one bank's posted-write queue (R33). -/
def postedWrites : Nat := 2
/-- Requests in the request queue (R166). -/
def requestQueue : Nat := 8
/-- The largest refusal count of a reply-order entry (R166). -/
def refusals : Nat := 65535
/-- Reports in the report queue (R170). -/
def reportQueue : Nat := 64
/-- The queue length up to which a sweep frame is offered: 16 entries are free (R178). -/
def sweepRoom : Nat := 48
/-- How far ahead a grant may lie, in ticks (R51). -/
def farLimit : Nat := 4194304

end Sys2Proof.Config
end

