-- ==== Sys2Proof/Machine/Types.lean ====
section
/-! DEFINITION. The data the part holds and sends: records, profiles, grants, results, reports, requests and
replies. Plain data only; what is done with it stands in the other files of this folder. -/

namespace Sys2Proof.Machine

/-! ### Station records (spec/01) -/

/-- The life state of a slot (R2, R3). -/
inductive StationState where
  | free | acquire | track | lost
deriving DecidableEq, Repr

/-- The state of a pending correction; the delivery time D is present in DELIVERED only (R9). -/
inductive Delivery where
  | issued
  | delivered (time : Time)
deriving DecidableEq, Repr

/-- The one correction issued and not yet absorbed or withdrawn (R9). -/
structure Correction where
  epoch : Epoch
  state : Delivery
  issueTime : Time
  timingDelta : Int
  powerDelta : Int
  freqDelta : Int
  taps : Option TapSet
deriving DecidableEq, Repr

/-- The four measurements of a detected burst: e, P, f and M (R74, R79). -/
structure Measurement where
  error : Int
  power : Int
  freq : Int
  mer : Int
deriving DecidableEq, Repr

/-- What the last detected burst showed, with its grant start G (R7). -/
structure LastMeasurement where
  values : Measurement
  start : Time
deriving DecidableEq, Repr

/-- A station record (R2). -/
structure Record where
  state : StationState
  generation : Generation
  homeLane : LaneId
  profile : ProfileId
  tags : List Nat
  timing : Int
  power : Int
  freq : Int
  taps : TapSet
  quality : Option Nat
  last : Option LastMeasurement
  missCount : Nat
  alignedCount : Nat
  budget : Nat
  pending : Option Correction
  nextEpoch : Epoch
  lastWithdrawn : Option Epoch
  gap : Bool
deriving DecidableEq, Repr

/-! ### Profiles (spec/08) -/

/-- How acquisition ends (R113). -/
inductive EndCondition where
  | either | budget
deriving DecidableEq, Repr

/-- What TRACK counts as a miss (R116). -/
inductive SilenceMode where
  | missedOnly | missedOrPoor
deriving DecidableEq, Repr

/-- The twenty-one fields of a profile, in the order of the table of R142. -/
structure Profile where
  target : Int
  powerDeadband : Nat
  powerStep : Nat
  powerFloor : Int
  powerCeiling : Int
  timingDeadband : Nat
  timingStep : Nat
  trackWindow : Nat
  acquisitionWindow : Nat
  freqDeadband : Nat
  lockTiming : Nat
  lockPower : Nat
  lockBursts : Nat
  budget : Nat
  endCondition : EndCondition
  silenceLimit : Nat
  silenceMode : SilenceMode
  smoothing : Nat
  tapThreshold : Nat
  deliveryLimit : Nat
  settle : Nat
deriving DecidableEq, Repr

/-- A profile and its use count (R26, R142). -/
structure ProfileEntry where
  fields : Profile
  useCount : Nat
deriving DecidableEq, Repr

/-- The twenty-one fields of a PROFILE_SET frame before their check: the two modes as their codes (R175). -/
structure RawProfile where
  target : Int
  powerDeadband : Nat
  powerStep : Nat
  powerFloor : Int
  powerCeiling : Int
  timingDeadband : Nat
  timingStep : Nat
  trackWindow : Nat
  acquisitionWindow : Nat
  freqDeadband : Nat
  lockTiming : Nat
  lockPower : Nat
  lockBursts : Nat
  budget : Nat
  endCode : Nat
  silenceLimit : Nat
  modeCode : Nat
  smoothing : Nat
  tapThreshold : Nat
  deliveryLimit : Nat
  settle : Nat
deriving DecidableEq, Repr

/-! ### Plant clock, grants and lanes (spec/03, 04, 09) -/

/-- The plant clock (R43). -/
structure Clock where
  count : Time
  synchronised : Bool
  armed : Option Time
deriving DecidableEq, Repr

/-- The five kinds of grant (R49). -/
inductive GrantKind where
  | opened | acq | maint | data | quiet
deriving DecidableEq, Repr

/-- An accepted grant; the tag is absent for OPEN and QUIET (R49). -/
structure Grant where
  start : Time
  length : Nat
  kind : GrantKind
  tag : Option Nat
deriving DecidableEq, Repr

/-- Start and end of the most recently accepted notice of a lane (R50). -/
structure TailRef where
  start : Time
  finish : Time
deriving DecidableEq, Repr

/-- The three symbol rates: 1.25, 2.5 and 5.0 Msym/s (00_scope, Units). -/
inductive SymbolRate where
  | low | mid | high
deriving DecidableEq, Repr

/-- The six settings of a lane (R62). -/
structure Settings where
  rate : SymbolRate
  preamble : Nat
  lookahead : Nat
  defaultFloor : Int
  margin : Nat
  openWindow : Nat
deriving DecidableEq, Repr

/-- The state of a lane (R62). -/
inductive LaneMode where
  | off | run | storm
deriving DecidableEq, Repr

/-- What a held grant's lookup, or the noise monitor, has made of it (R67 to R72, R77, R154). A station burst keeps the
starting taps that its lookup chose; those of every other burst are the identity set (Reception.startingSet). -/
inductive Reception where
  /-- The lookup's read of this slot is outstanding (R68). -/
  | looking (slot : Nat)
  /-- The tag named no station: profile 0's track window (R68). -/
  | orphan (halfWidth : Nat)
  /-- The tag's station belongs to another lane (R69). -/
  | mismatch (slot : Nat) (generation : Generation) (halfWidth : Nat)
  /-- The window opened before the read completed (R70). -/
  | late (slot : Nat) (halfWidth : Nat)
  /-- A station burst: centre shift from G × 32, half-width, starting taps (R71, R72, R77). -/
  | station (slot : Nat) (generation : Generation) (shift : Int) (halfWidth : Nat) (startTaps : TapSet)
  /-- An OPEN grant, searched over the one-sided open window (R73). -/
  | newcomer
  /-- A QUIET grant whose start has not been decided (R154). -/
  | quietWaiting
  /-- A QUIET grant whose measurement is in progress (R156). -/
  | quietMeasuring
  /-- A QUIET grant passed over unmeasured (R154). -/
  | quietPassed
deriving DecidableEq, Repr

/-- A grant a lane holds (R54). -/
structure Held where
  grant : Grant
  reception : Reception
deriving DecidableEq, Repr

/-- The nine outcomes of a BURST report (R106); a lane gives the first six (R80). -/
inductive BurstOutcome where
  | clean | missed | clash | orphan | mismatch | lookupLate | abandoned | unprocessed | stale
deriving DecidableEq, Repr

/-- A burst result (R82). -/
structure BurstResult where
  lane : LaneId
  start : Time
  kind : GrantKind
  tag : Option Nat
  slot : Option Nat
  generation : Option Generation
  outcome : BurstOutcome
  measured : Option Measurement
  trained : Option TapSet
  clipped : Bool
deriving DecidableEq, Repr

/-- The modes of a noise monitor (R152). -/
inductive NoiseMode where
  | off | periodic | every
deriving DecidableEq, Repr

/-- What a latch leaves: level, saturation mark, grade and last start (R157). -/
structure Latched where
  level : Int
  saturated : Bool
  grade : Nat
  lastStart : Time
deriving DecidableEq, Repr

/-- A noise monitor (R152). `latched` is absent while the monitor is unmeasured; the measurements in progress and
the busy flag stand in the lane's held grants. -/
structure Monitor where
  mode : NoiseMode
  interval : Nat
  latched : Option Latched
  mark : Bool
  consecutive : Nat
deriving DecidableEq, Repr

/-- A lane: state, settings, grant queue and tail reference, held grants (the older first), result holder, noise
monitor (R50, R54, R62, R83, R152). -/
structure Lane where
  mode : LaneMode
  settings : Settings
  queue : List Grant
  tail : Option TailRef
  held : List Held
  holder : List BurstResult
  monitor : Monitor
deriving DecidableEq, Repr

/-! ### The station table store (spec/02) -/

/-- The requesters of a bank read (R29); a lookup is known by its lane and its grant's start. -/
inductive Requester where
  | lookup (lane : LaneId) (start : Time)
  | update
  | command
  | timer
  | sweep
deriving DecidableEq, Repr

/-- A read waiting for a bank (R29). -/
structure ReadRequest where
  who : Requester
  slot : Nat
deriving DecidableEq, Repr

/-- What a bank is busy with. A read keeps the image taken at its grant (R36) and the plant time of the grant
(R177); a withdrawn read has no requester any more (R32). -/
inductive Access where
  | idle
  | read (who : Option Requester) (slot : Nat) (image : Record) (granted : Time)
  | drain
deriving DecidableEq, Repr

/-- One entry of a posted-write queue (R33). -/
structure Posted where
  slot : Nat
  image : Record
deriving DecidableEq, Repr

/-- A bank: its array, its posted-write queue (oldest first), its access and its waiting reads (R28 to R36). A slot
that the array does not list holds the reset record. -/
structure Bank where
  array : List (Nat × Record)
  queue : List Posted
  access : Access
  waiting : List ReadRequest
deriving DecidableEq, Repr

/-! ### Corrections in flight (spec/07) -/

/-- An entry of the deadline list (R127). `heldOff` is the model's own: the entry's issue time lies ahead of the
count since a backward trim, and it is not tested until the count reaches it again (R128). -/
structure DeadlineEntry where
  slot : Nat
  epoch : Epoch
  issueTime : Time
  limit : Nat
  expired : Bool
  heldOff : Bool
deriving DecidableEq, Repr

/-- What a post does to the deadline list (R127). -/
inductive DeadlineChange where
  | keep
  | join (entry : DeadlineEntry)
  | leave (slot : Nat)
deriving DecidableEq, Repr

/-- A post: the image, and what takes effect with it beside the tag map (R26, R33, R127). `released` and `taken`
name the profiles whose use counts fall and rise. -/
structure Post where
  slot : Nat
  image : Record
  deadline : DeadlineChange
  released : Option ProfileId
  taken : Option ProfileId
deriving DecidableEq, Repr

/-- The three writers (R29, R38). -/
inductive Writer where
  | update | command | timer
deriving DecidableEq, Repr

/-- How far a writer has come with the one piece of work it has in hand (R39). `atSlot` is the CLEAR_ALL walk
between two slots (R24). -/
inductive Phase (ω : Type) where
  | idle
  | atSlot (slot : Nat) (work : ω)
  | waiting (slot : Nat) (work : ω)
  | reading (slot : Nat) (work : ω)
  | ready (slot : Nat) (work : ω) (image : Record)
  | posting (work : ω) (post : Post)
deriving DecidableEq, Repr

/-! ### Requests and replies (spec/10) -/

/-- A request with its fields as the frame carries them, before their checks (R175). -/
inductive Request where
  | admitStation (slot lane profile : Nat) (timing power freq : Int)
  | retire (slot : Nat)
  | move (slot lane : Nat)
  | recover (slot : Nat)
  | amend (slot profile : Nat)
  | fetch (slot view : Nat)
  | mapTags (slot base count : Nat)
  | unmapTags (slot number : Nat) (fields : List Nat)
  | clearAll
  | delivered (slot epoch : Nat) (time : Time)
  | profileSet (profile : Nat) (fields : RawProfile)
  | profileGet (profile : Nat)
  | laneSet (lane rate preamble lookahead : Nat) (floor : Int) (margin openWindow : Nat)
  | laneStart (lane : Nat)
  | laneStop (lane : Nat)
  | noiseMode (lane mode interval : Nat)
  | noiseStatus (lane : Nat)
  | clockSet (value : Time)
  | sweep (first count states lanes profiles view deadline : Nat)
  | sweepStop
  | sweepStatus
  | alertRead
  | alertAck (causes : Nat)
  | alertSet (enables plant station flow service threshold : Nat)
deriving DecidableEq, Repr

/-- The reply statuses (R168). -/
inductive Status where
  | ok | busy | full | badRequest | badArg | inUse | noStation | badState | outOfBounds | tagTaken | tagLimit
  | misaligned | notMapped | staleEpoch | nonePending | tooLate | badProfile | unsync
deriving DecidableEq, Repr

/-- The two views of a record (R23). -/
inductive View where
  | summary | full
deriving DecidableEq, Repr

/-- The state of a pending correction as the SUMMARY view names it, without the delivery time (R23, R141). -/
inductive DeliveryState where
  | issued | delivered
deriving DecidableEq, Repr

/-- The SUMMARY view (R23); of the pending correction, its state and epoch alone. -/
structure Summary where
  slot : Nat
  generation : Generation
  state : StationState
  homeLane : LaneId
  profile : ProfileId
  timing : Int
  power : Int
  freq : Int
  quality : Option Nat
  missCount : Nat
  pending : Option (DeliveryState × Epoch)
deriving DecidableEq, Repr

/-- What the FULL view adds to the SUMMARY view (R23). -/
structure FullPart where
  tags : List Nat
  taps : TapSet
  last : Option LastMeasurement
  alignedCount : Nat
  budget : Nat
  pending : Option Correction
  nextEpoch : Epoch
  lastWithdrawn : Option Epoch
  gap : Bool
deriving DecidableEq, Repr

/-- A record as FETCH or the sweep shows it: the full part is absent in the SUMMARY view (R23). -/
structure RecordView where
  summary : Summary
  fullPart : Option FullPart
deriving DecidableEq, Repr

/-- The reply of NOISE_STATUS (R163). -/
structure NoiseStatus where
  lane : LaneId
  mode : LaneMode
  monitorMode : NoiseMode
  seconds : Nat
  busy : Bool
  latched : Option Latched
  mark : Bool
  consecutive : Nat
  effectiveFloor : Int
deriving DecidableEq, Repr

/-- The phase of the sweep engine (R176). -/
inductive SweepPhase where
  | idle | running | ending
deriving DecidableEq, Repr

/-- The last result of the sweep engine (R176). -/
inductive SweepResult where
  | none | done | timeout | stopped
deriving DecidableEq, Repr

/-- The reply of SWEEP_STATUS (R182). -/
structure SweepStatus where
  phase : SweepPhase
  result : SweepResult
  remaining : Nat
  framesSent : Nat
  emitted : Nat
  nextSlot : Option Nat
deriving DecidableEq, Repr

/-- The four groups of alert causes, in the fixed group order (R183). -/
inductive AlertGroup where
  | plant | station | flow | service
deriving DecidableEq, Repr

/-- The twelve alert causes, in the order of R183; cause k is bit k of a cause set (R175). -/
inductive Cause where
  | stormEnter | stormLeave | clockSlip
  | stationLost | correctionWithdrawn | newcomerSeen
  | grantRefused | reportDropped | resultUnprocessed | orphanGrant
  | sweepEnded | requestOverrun
deriving DecidableEq, Repr

/-- The contents of a reply of status OK (R167). -/
inductive ReplyBody where
  | empty
  | clock (count : Time) (synchronised : Bool)
  | record (view : RecordView)
  | profile (number : ProfileId) (fields : Profile) (useCount : Nat)
  | noise (status : NoiseStatus)
  | sweep (status : SweepStatus)
  | alert (flags : BitVec 12) (line : Bool) (first : Option AlertGroup)
deriving DecidableEq, Repr

/-- A reply: the request code as the request carried it, the status, and the contents (R167). -/
structure Reply where
  code : Nat
  status : Status
  body : ReplyBody
deriving DecidableEq, Repr

/-- An entry of the reply order (R166). `refused` holds the codes of the requests refused after it, so that its
length is the refusal count (log entry 14). -/
structure ReplyEntry where
  code : Nat
  reply : Option Reply
  sent : Bool
  refused : List Nat
deriving DecidableEq, Repr

/-! ### Reports (spec/10) -/

/-- A BURST report (R106). -/
structure BurstReport where
  lane : LaneId
  start : Time
  kind : GrantKind
  tag : Option Nat
  slot : Option Nat
  generation : Option Generation
  outcome : BurstOutcome
  measured : Option Measurement
  quality : Option Nat
  timingLimit : Bool
  powerLimit : Bool
  clipped : Bool
  pre : Bool
  gap : Bool
deriving DecidableEq, Repr

/-- A CORRECTION report (R125). -/
structure CorrectionReport where
  slot : Nat
  generation : Generation
  epoch : Epoch
  issueTime : Time
  tag : Option Nat
  timingDelta : Int
  powerDelta : Int
  freqDelta : Int
  taps : Option TapSet
  gap : Bool
deriving DecidableEq, Repr

/-- An ABSORBED report (R136). -/
structure AbsorbedReport where
  slot : Nat
  generation : Generation
  epoch : Epoch
  start : Time
  tapReset : Bool
  gap : Bool
deriving DecidableEq, Repr

/-- A WITHDRAWN report (R130, R20). -/
structure WithdrawnReport where
  slot : Nat
  generation : Generation
  epoch : Epoch
  issueTime : Time
  gap : Bool
deriving DecidableEq, Repr

/-- The reasons of a STATE report (R27, R122). -/
inductive StateReason where
  | admitted | retired | moved | recovered | cleared | locked | exhausted | silent | rejoined
deriving DecidableEq, Repr

/-- A STATE report (R27, R122); slot and old state are absent for CLEARED. -/
structure StateReport where
  slot : Option Nat
  old : Option StationState
  new : StationState
  reason : StateReason
  gap : Bool
deriving DecidableEq, Repr

/-- A NEWCOMER report: the fields that R85 lists. DEDUCED: it carries P without the CLIPPED flag of R108, which is read as
a flag of the BURST report (log entry 32). -/
structure NewcomerReport where
  lane : LaneId
  start : Time
  measured : Measurement
deriving DecidableEq, Repr

/-- Why a grant notice is refused (R51). -/
inductive RefusalReason where
  | badNotice | unsync | laneOff | late | far | order | overlap | full
deriving DecidableEq, Repr

/-- A GRANT_REFUSED report, the fields as the notice carried them (R52). -/
structure GrantRefusedReport where
  lane : Nat
  start : Time
  length : Nat
  kind : Nat
  tag : Option Nat
  reason : RefusalReason
deriving DecidableEq, Repr

/-- Why a lane's queue was flushed (R58). -/
inductive FlushReason where
  | stopped | slip
deriving DecidableEq, Repr

/-- A LANE_FLUSH report (R58). -/
structure LaneFlushReport where
  lane : LaneId
  reason : FlushReason
  count : Nat
deriving DecidableEq, Repr

/-- The transition a latch made (R159). -/
inductive StormTransition where
  | none | entered | left
deriving DecidableEq, Repr

/-- A NOISE report (R158). -/
structure NoiseReport where
  lane : LaneId
  start : Time
  level : Int
  saturated : Bool
  grade : Nat
  consecutive : Nat
  mode : LaneMode
  transition : StormTransition
deriving DecidableEq, Repr

/-- One record of a sweep frame, with the plant time of its read (R177). -/
structure SweepRecord where
  view : RecordView
  readTime : Time
deriving DecidableEq, Repr

/-- A SWEEP_RECORDS report (R178). -/
structure SweepRecordsReport where
  frame : Nat
  view : View
  records : List SweepRecord
deriving DecidableEq, Repr

/-- A SWEEP_END report (R179). -/
structure SweepEndReport where
  status : SweepResult
  emitted : Nat
  framesSent : Nat
  nextSlot : Nat
deriving DecidableEq, Repr

/-- The eleven kinds of report (R170, section 10.2). -/
inductive Report where
  | burst (r : BurstReport)
  | correction (r : CorrectionReport)
  | absorbed (r : AbsorbedReport)
  | withdrawn (r : WithdrawnReport)
  | state (r : StateReport)
  | newcomer (r : NewcomerReport)
  | grantRefused (r : GrantRefusedReport)
  | laneFlush (r : LaneFlushReport)
  | noise (r : NoiseReport)
  | sweepRecords (r : SweepRecordsReport)
  | sweepEnd (r : SweepEndReport)
deriving DecidableEq, Repr

/-- A frame on the outgoing direction of the station link (R169). -/
inductive OutFrame where
  | reply (r : Reply)
  | report (r : Report)
deriving DecidableEq, Repr

/-! ### Sweep engine, symbol units, alert unit -/

/-- Descriptor and progress of a sweep (R176). `heldOff` is the model's own: the start time lies ahead of the count
since a backward trim (R180). -/
structure SweepRun where
  first : Nat
  last : Nat
  states : BitVec 4
  lanes : BitVec 4
  profiles : BitVec 8
  view : View
  start : Time
  deadline : Nat
  next : Nat
  frame : List SweepRecord
  framesSent : Nat
  emitted : Nat
  resume : Nat
  applies : Bool
  heldOff : Bool
deriving DecidableEq, Repr

/-- The sweep engine (R176). -/
structure SweepEngine where
  phase : SweepPhase
  result : SweepResult
  run : Option SweepRun
deriving DecidableEq, Repr

/-- A unit of the symbol port: its header, how many soft symbols follow, and those the samples named (R81; log
entry 8). -/
structure SymbolUnit where
  lane : LaneId
  start : Time
  tag : Option Nat
  outcome : BurstOutcome
  count : Nat
  symbols : List Tap
deriving DecidableEq, Repr

/-- The alert unit (R183). Bit k of `flags` and of `enables` is cause k. -/
structure AlertUnit where
  flags : BitVec 12
  enables : BitVec 12
  plant : Nat
  station : Nat
  flow : Nat
  service : Nat
  threshold : Nat
deriving DecidableEq, Repr

end Sys2Proof.Machine
end

