-- ==== Sys2Proof/Machine/Conventions.lean ====
section
/-! DEFINITION. The arithmetic conventions of spec/00_scope.md (R1): modular time, rounding and limits, units. -/

namespace Sys2Proof

/-- Component by component over one tap. -/
def Tap.map (f : Int → Int) (a : Tap) : Tap := ⟨f a.re, f a.im⟩

/-- Component by component over two taps. -/
def Tap.zip (f : Int → Int → Int) (a b : Tap) : Tap := ⟨f a.re b.re, f a.im b.im⟩

/-- Component by component over a tap set, the index of each tap kept. -/
def TapSet.map (f : Int → Int) (a : TapSet) : TapSet :=
  { t0 := a.t0.map f, t1 := a.t1.map f, t2 := a.t2.map f, t3 := a.t3.map f,
    t4 := a.t4.map f, t5 := a.t5.map f, t6 := a.t6.map f, t7 := a.t7.map f }

/-- Component by component over two tap sets, the index of each tap kept. -/
def TapSet.zip (f : Int → Int → Int) (a b : TapSet) : TapSet :=
  { t0 := a.t0.zip f b.t0, t1 := a.t1.zip f b.t1, t2 := a.t2.zip f b.t2, t3 := a.t3.zip f b.t3,
    t4 := a.t4.zip f b.t4, t5 := a.t5.zip f b.t5, t6 := a.t6.zip f b.t6, t7 := a.t7.zip f b.t7 }

/-- The taps in index order 0..7. -/
def TapSet.toList (a : TapSet) : List Tap := [a.t0, a.t1, a.t2, a.t3, a.t4, a.t5, a.t6, a.t7]

end Sys2Proof

namespace Sys2Proof.Machine

/-- Time a is at or after time b: (a − b) mod 2^32 is less than 2^31. -/
def atOrAfter (a b : Time) : Bool := decide ((a - b).toNat < 2147483648)

/-- Time a is before time b. -/
def before (a b : Time) : Bool := !atOrAfter a b

/-- The elapsed time from b to a, 0..2^32 − 1. -/
def elapsed (a b : Time) : Nat := (a - b).toNat

/-- The signed difference of two plant times, −2^31..2^31 − 1. -/
def signedDifference (a b : Time) : Int := (a - b).toInt

/-- A plant time some ticks on, modulo 2^32. -/
def later (t : Time) (ticks : Nat) : Time := t + BitVec.ofNat 32 ticks

/-- clamp(x, lo, hi). -/
def clamp (x lo hi : Int) : Int := if x < lo then lo else if hi < x then hi else x

/-- A clamp bites when its result differs from x. -/
def clampBites (x lo hi : Int) : Bool := decide (clamp x lo hi ≠ x)

/-- floor(x / d) for a positive d. -/
def floorDiv (x : Int) (d : Nat) : Int := x / (d : Int)

/-- x / 2^m rounded to the nearest integer, a fraction of exactly one half away from zero. -/
def roundShift (x : Int) (m : Nat) : Int :=
  if 0 ≤ x then (2 * x + (2 ^ m : Nat)) / (2 * (2 ^ m : Nat)) else -((2 * (-x) + (2 ^ m : Nat)) / (2 * (2 ^ m : Nat)))

/-- Whole ticks that cover so many subticks, rounded up; 0 when x is not positive (R73). -/
def ticksCovering (x : Int) : Nat := (x.toNat + 31) / 32

/-- Ticks per symbol of a symbol rate (Units). -/
def SymbolRate.ticks : SymbolRate → Nat
  | .low => 16
  | .mid => 8
  | .high => 4

/-- Subticks per symbol of a symbol rate (Units). -/
def SymbolRate.subticks (r : SymbolRate) : Nat := 32 * r.ticks

/-- The span of a grant of so many symbols, in ticks (R49). -/
def spanTicks (rate : SymbolRate) (length : Nat) : Nat := length * rate.ticks

/-- The end of a grant: its start plus its span, modulo 2^32 (R49). -/
def grantEnd (rate : SymbolRate) (start : Time) (length : Nat) : Time := later start (spanTicks rate length)

/-- Ticks in a millisecond (Units). -/
def ticksPerMs : Nat := 20000

/-- Ticks in a second (Units). -/
def ticksPerSecond : Nat := 20000000

/-- The bank of a slot: s mod 4 (R28). -/
def bankOf (slot : Nat) : BankId := Fin.ofNat 4 slot

/-- The lane a number names, if it is 0..3. -/
def laneOf (n : Nat) : Option LaneId := if h : n < 4 then some ⟨n, h⟩ else none

/-- The profile a number names, if it is 0..7. -/
def profileOf (n : Nat) : Option ProfileId := if h : n < 8 then some ⟨n, h⟩ else none

/-- The slot number is one of the table's (R2). -/
def slotInRange (slot : Nat) : Bool := decide (slot < Config.slots)

/-- x lies within lo..hi. -/
def within (x lo hi : Int) : Bool := decide (lo ≤ x) && decide (x ≤ hi)

/-- The identity set: main tap (16384, 0), every other tap (0, 0) (R6). -/
def identityTaps : TapSet :=
  { t0 := ⟨0, 0⟩, t1 := ⟨0, 0⟩, t2 := ⟨16384, 0⟩, t3 := ⟨0, 0⟩, t4 := ⟨0, 0⟩, t5 := ⟨0, 0⟩, t6 := ⟨0, 0⟩, t7 := ⟨0, 0⟩ }

/-- A trained component saturates to −32768..32767, each by itself (R78). -/
def saturateTaps (a : TapSet) : TapSet := a.map fun x => clamp x (-32768) 32767

end Sys2Proof.Machine
end

