-- ==== Sys2Proof/Machine/Defaults.lean ====
section
/-! DEFINITION. The reset values of the part's pieces, each from the rule that gives it. -/

namespace Sys2Proof.Machine

/-- The record of every slot at reset (R11). The fields that a FREE slot gives no meaning (R2) hold the values named
in log entry 10. -/
def Record.atReset : Record :=
  { state := .free
    generation := 0
    homeLane := 0
    profile := 0
    tags := []
    timing := 0
    power := 0
    freq := 0
    taps := identityTaps
    quality := none
    last := none
    missCount := 0
    alignedCount := 0
    budget := 0
    pending := none
    nextEpoch := 0
    lastWithdrawn := none
    gap := false }

/-- The defaults of a profile (R142). -/
def Profile.atReset : Profile :=
  { target := 0
    powerDeadband := 4
    powerStep := 8
    powerFloor := -48
    powerCeiling := 48
    timingDeadband := 16
    timingStep := 512
    trackWindow := 2048
    acquisitionWindow := 16384
    freqDeadband := 100
    lockTiming := 64
    lockPower := 8
    lockBursts := 2
    budget := 16
    endCondition := .either
    silenceLimit := 6
    silenceMode := .missedOnly
    smoothing := 2
    tapThreshold := 40
    deliveryLimit := 2097152
    settle := 20000 }

/-- The plant clock at reset (R43). -/
def Clock.atReset : Clock := { count := 0, synchronised := false, armed := none }

/-- The defaults of a lane's settings (R62). -/
def Settings.atReset : Settings :=
  { rate := .high, preamble := 32, lookahead := 4096, defaultFloor := -160, margin := 40, openWindow := 65536 }

/-- A noise monitor at reset (R152). -/
def Monitor.atReset : Monitor :=
  { mode := .off, interval := 80000000, latched := none, mark := false, consecutive := 0 }

/-- A lane at reset (R50, R62, R83, R152). -/
def Lane.atReset : Lane :=
  { mode := .off, settings := Settings.atReset, queue := [], tail := none, held := [], holder := [],
    monitor := Monitor.atReset }

/-- A bank at reset: every slot holds the reset record, nothing is queued, no read waits (R42). -/
def Bank.atReset : Bank := { array := [], queue := [], access := .idle, waiting := [] }

/-- The sweep engine at reset (R176). -/
def SweepEngine.atReset : SweepEngine := { phase := .idle, result := .none, run := none }

/-- The alert unit at reset (R183). -/
def AlertUnit.atReset : AlertUnit :=
  { flags := 0, enables := 0, plant := 0, station := 0, flow := 0, service := 0, threshold := 1 }

end Sys2Proof.Machine
end

