-- ==== Sys2Proof/Machine/State.lean ====
section
/-! DEFINITION. The state of the part, as plain data: every piece the spec names (INVENTORY.md, State), and the
queue of waiting commands. -/

namespace Sys2Proof.Machine

/-- The part's state. -/
structure State where
  /-- The plant clock (R43). -/
  clock : Clock
  /-- The four lanes with their grant queues, held grants, result holders and noise monitors (R50, R62, R83, R152). -/
  lanes : Vector Lane 4
  /-- The tag map: (tag, slot) pairs with strictly rising tags (R12). -/
  tagMap : List (Nat × Nat)
  /-- The four banks of the station table (R28). -/
  banks : Vector Bank 4
  /-- The eight profiles and their use counts (R142). -/
  profiles : Vector ProfileEntry 8
  /-- The update engine and the result it works on (R84, R87). -/
  update : Phase BurstResult
  /-- The deadline list, earliest deadline first (R127). -/
  deadlines : List DeadlineEntry
  /-- The correction timer and the withdrawal it is making (R129). -/
  timer : Phase DeadlineEntry
  /-- The command engine and the request it carries out (R16, R167). -/
  command : Phase Request
  /-- The request queue, oldest first (R166). -/
  requests : List (List Byte)
  /-- The reply order, oldest first (R166). -/
  replies : List ReplyEntry
  /-- The report queue, oldest first (R170). -/
  reports : List Report
  /-- The frame being sent on the outgoing direction (R169). -/
  sending : Option OutFrame
  /-- The sweep engine (R176). -/
  sweep : SweepEngine
  /-- The symbol port: the unit in emission, then those that follow it, in the order they became ready (R81). -/
  port : List SymbolUnit
  /-- The alert unit (R183). -/
  alert : AlertUnit
  /-- The commands that are waiting, first in, first out (log entries 4 and 5). -/
  pending : List Instr
deriving DecidableEq, Repr

/-- Why the machine stops with a fault: the spec describes no event that stops the part, so there is no fault. -/
inductive Fault where
deriving DecidableEq, Repr

/-- Why a command is refused. -/
inductive Refusal where
  /-- The command has no meaning yet; raised by exec's own arm only. Safe: the run ends. No arm raises it. -/
  | notModelled (mnemonic : String)
deriving DecidableEq, Repr

/-- The part right after reset (R11, R42, R43, R50, R62, R81, R83, R87, R140, R142, R152, R166, R167, R169, R170,
R176, R183). No command waits. -/
def State.reset : State :=
  { clock := Clock.atReset
    lanes := Vector.replicate 4 Lane.atReset
    tagMap := []
    banks := Vector.replicate 4 Bank.atReset
    profiles := Vector.replicate 8 { fields := Profile.atReset, useCount := 0 }
    update := .idle
    deadlines := []
    timer := .idle
    command := .idle
    requests := []
    replies := []
    reports := []
    sending := none
    sweep := SweepEngine.atReset
    port := []
    alert := AlertUnit.atReset
    pending := [] }

end Sys2Proof.Machine
end

