-- ==== Sys2Proof/Machine/Flags.lean ====
section
/-! DEFINITION. The alert unit's flags, line and first pending group (spec/11_alert_unit.md). -/

namespace Sys2Proof.Machine

/-- The bit of a cause in a cause set (R175, in the order of R183). -/
def Cause.bit : Cause → Nat
  | .stormEnter => 0
  | .stormLeave => 1
  | .clockSlip => 2
  | .stationLost => 3
  | .correctionWithdrawn => 4
  | .newcomerSeen => 5
  | .grantRefused => 6
  | .reportDropped => 7
  | .resultUnprocessed => 8
  | .orphanGrant => 9
  | .sweepEnded => 10
  | .requestOverrun => 11

/-- The causes of a group, as a cause set (R183). -/
def AlertGroup.causes : AlertGroup → BitVec 12
  | .plant => 0b000000000111
  | .station => 0b000000111000
  | .flow => 0b001111000000
  | .service => 0b110000000000

/-- The flag of a cause is set. -/
def AlertUnit.flag (u : AlertUnit) (c : Cause) : Bool := u.flags.getLsbD c.bit

/-- Raising a cause sets its flag, whatever its enable and its group's priority (R184). -/
def AlertUnit.raise (u : AlertUnit) (c : Cause) : AlertUnit :=
  { u with flags := u.flags ||| BitVec.twoPow 12 c.bit }

/-- The priority of a group. -/
def AlertUnit.priority (u : AlertUnit) : AlertGroup → Nat
  | .plant => u.plant
  | .station => u.station
  | .flow => u.flow
  | .service => u.service

/-- A group is asserting: its priority is above 0 and at least the threshold, and one of its causes is set and
enabled (R185). -/
def AlertUnit.asserting (u : AlertUnit) (g : AlertGroup) : Bool :=
  decide (0 < u.priority g) && decide (u.threshold ≤ u.priority g) && decide (u.flags &&& u.enables &&& g.causes ≠ 0)

/-- The four groups in the fixed group order (R183). -/
def alertGroups : List AlertGroup := [.plant, .station, .flow, .service]

/-- The ALERT line: at least one group is asserting (R185). -/
def AlertUnit.line (u : AlertUnit) : Bool := alertGroups.any u.asserting

/-- Of two candidates, the one of higher priority; the earlier in the fixed order when they are equal. -/
def AlertUnit.better (u : AlertUnit) (best : Option AlertGroup) (g : AlertGroup) : Option AlertGroup :=
  if u.asserting g then
    match best with
    | none => some g
    | some b => if u.priority b < u.priority g then some g else some b
  else best

/-- The first pending group: the asserting group of highest priority, the first in the fixed order among equals
(R186). -/
def AlertUnit.firstPending (u : AlertUnit) : Option AlertGroup := alertGroups.foldl u.better none

/-- Raises a cause in the part's alert unit (R184). -/
def State.raise (c : Cause) (s : State) : State := { s with alert := s.alert.raise c }

end Sys2Proof.Machine
end

