-- ==== Sys2Proof/Machine/Operands.lean ====
section
/-! DEFINITION. The incoming frames: the byte layouts of the grant notice (R172) and of the requests (R175), and the
range checks that turn raw fields into a profile or a lane's settings. -/

namespace Sys2Proof.Machine

/-- Bytes read most significant first (section 10.3). -/
def bytesToNat (bytes : List Byte) : Nat := bytes.foldl (fun n b => 256 * n + b.toNat) 0

/-- The unsigned field of so many bytes at an offset of a frame. -/
def field (frame : List Byte) (offset size : Nat) : Nat := bytesToNat ((frame.drop offset).take size)

/-- The two's-complement field of so many bytes at an offset of a frame. -/
def signedField (frame : List Byte) (offset size : Nat) : Int :=
  (BitVec.ofNat (8 * size) (field frame offset size)).toInt

/-- The plant-time field at an offset of a frame. -/
def timeField (frame : List Byte) (offset : Nat) : Time := BitVec.ofNat 32 (field frame offset 4)

/-! ### The grant notice (R172) -/

/-- A grant notice as decoded from its frame. -/
structure Notice where
  wellSized : Bool
  lane : Nat
  kind : Nat
  start : Time
  length : Nat
  tag : Nat
deriving DecidableEq, Repr

/-- The fields of a schedule-link frame: missing bytes are taken as 0, bytes beyond the tenth are ignored (R172). -/
def decodeNotice (frame : List Byte) : Notice :=
  let padded := frame.take 10 ++ List.replicate (10 - frame.length) 0
  { wellSized := decide (frame.length = 10)
    lane := field padded 0 1
    kind := field padded 1 1
    start := timeField padded 2
    length := field padded 6 2
    tag := field padded 8 2 }

/-- The kind a code names (R172). -/
def kindOf : Nat → Option GrantKind
  | 0 => some .opened
  | 1 => some .acq
  | 2 => some .maint
  | 3 => some .data
  | 4 => some .quiet
  | _ => none

/-- The code of a kind (R172). -/
def GrantKind.code : GrantKind → Nat
  | .opened => 0
  | .acq => 1
  | .maint => 2
  | .data => 3
  | .quiet => 4

/-- A grant of this kind names a transmitter: ACQ, MAINT or DATA (R49). -/
def GrantKind.named : GrantKind → Bool
  | .acq => true
  | .maint => true
  | .data => true
  | .opened => false
  | .quiet => false

/-- The tag a GRANT_REFUSED report carries: absent when the kind byte is 0 or 4 (R52, R172). -/
def Notice.reportedTag (n : Notice) : Option Nat := if n.kind = 0 ∨ n.kind = 4 then none else some n.tag

/-! ### Requests (R175) -/

/-- The length in bytes that a request code requires; none for a code that is no request code. -/
def requestLength : Nat → Option Nat
  | 1 => some 15
  | 2 => some 3
  | 3 => some 4
  | 4 => some 3
  | 5 => some 4
  | 6 => some 4
  | 7 => some 6
  | 8 => some 20
  | 9 => some 1
  | 10 => some 8
  | 11 => some 37
  | 12 => some 2
  | 13 => some 13
  | 14 => some 2
  | 15 => some 2
  | 16 => some 4
  | 17 => some 2
  | 18 => some 5
  | 19 => some 11
  | 20 => some 1
  | 21 => some 1
  | 22 => some 1
  | 23 => some 3
  | 24 => some 8
  | _ => none

/-- The twenty-one fields of a PROFILE_SET frame, from byte 2 on. -/
def rawProfile (f : List Byte) : RawProfile :=
  { target := signedField f 2 1
    powerDeadband := field f 3 1
    powerStep := field f 4 1
    powerFloor := signedField f 5 1
    powerCeiling := signedField f 6 1
    timingDeadband := field f 7 1
    timingStep := field f 8 2
    trackWindow := field f 10 2
    acquisitionWindow := field f 12 4
    freqDeadband := field f 16 2
    lockTiming := field f 18 2
    lockPower := field f 20 1
    lockBursts := field f 21 1
    budget := field f 22 1
    endCode := field f 23 1
    silenceLimit := field f 24 1
    modeCode := field f 25 1
    smoothing := field f 26 1
    tapThreshold := field f 27 2
    deliveryLimit := field f 29 4
    settle := field f 33 4 }

/-- The fields of a request frame of a known code and the right length. -/
def requestFields (code : Nat) (f : List Byte) : Option Request :=
  match code with
  | 1 => some (.admitStation (field f 1 2) (field f 3 1) (field f 4 1) (field f 5 4) (signedField f 9 2) (signedField f 11 4))
  | 2 => some (.retire (field f 1 2))
  | 3 => some (.move (field f 1 2) (field f 3 1))
  | 4 => some (.recover (field f 1 2))
  | 5 => some (.amend (field f 1 2) (field f 3 1))
  | 6 => some (.fetch (field f 1 2) (field f 3 1))
  | 7 => some (.mapTags (field f 1 2) (field f 3 2) (field f 5 1))
  | 8 => some (.unmapTags (field f 1 2) (field f 3 1)
      [field f 4 2, field f 6 2, field f 8 2, field f 10 2, field f 12 2, field f 14 2, field f 16 2, field f 18 2])
  | 9 => some .clearAll
  | 10 => some (.delivered (field f 1 2) (field f 3 1) (timeField f 4))
  | 11 => some (.profileSet (field f 1 1) (rawProfile f))
  | 12 => some (.profileGet (field f 1 1))
  | 13 => some (.laneSet (field f 1 1) (field f 2 1) (field f 3 1) (field f 4 2) (signedField f 6 2) (field f 8 1)
      (field f 9 4))
  | 14 => some (.laneStart (field f 1 1))
  | 15 => some (.laneStop (field f 1 1))
  | 16 => some (.noiseMode (field f 1 1) (field f 2 1) (field f 3 1))
  | 17 => some (.noiseStatus (field f 1 1))
  | 18 => some (.clockSet (timeField f 1))
  | 19 => some (.sweep (field f 1 2) (field f 3 2) (field f 5 1) (field f 6 1) (field f 7 1) (field f 8 1) (field f 9 2))
  | 20 => some .sweepStop
  | 21 => some .sweepStatus
  | 22 => some .alertRead
  | 23 => some (.alertAck (field f 1 2))
  | 24 => some (.alertSet (field f 1 2) (field f 3 1) (field f 4 1) (field f 5 1) (field f 6 1) (field f 7 1))
  | _ => none

/-- The request code of a frame, its first byte (R165); 0, which is no request code, for a frame of no bytes (log
entry 16). -/
def requestCode (frame : List Byte) : Nat := field frame 0 1

/-- The request a frame holds; none for a frame that is answered BAD_REQUEST (R165). -/
def parseRequest (frame : List Byte) : Option Request :=
  if requestLength (requestCode frame) = some frame.length then requestFields (requestCode frame) frame else none

/-! ### Checks of raw fields -/

/-- The end condition a code names (R175). -/
def endConditionOf : Nat → Option EndCondition
  | 0 => some .either
  | 1 => some .budget
  | _ => none

/-- The silence mode a code names (R175). -/
def silenceModeOf : Nat → Option SilenceMode
  | 0 => some .missedOnly
  | 1 => some .missedOrPoor
  | _ => none

/-- The numeric fields lie within the values of R142. -/
def RawProfile.inRange (r : RawProfile) : Bool :=
  within r.target (-64) 63 && within r.powerDeadband 0 31 && within r.powerStep 1 48 &&
  within r.powerFloor (-128) 127 && within r.powerCeiling (-128) 127 && within r.timingDeadband 0 255 &&
  within r.timingStep 1 4095 && within r.trackWindow 64 16383 && within r.acquisitionWindow 256 262143 &&
  within r.freqDeadband 0 2000 && within r.lockTiming 0 4095 && within r.lockPower 0 31 && within r.lockBursts 1 7 &&
  within r.budget 1 63 && within r.silenceLimit 1 15 && within r.smoothing 0 6 && within r.tapThreshold 1 1023 &&
  within r.deliveryLimit 4096 16777215 && within r.settle 0 1048575

/-- The two relations of a profile: floor at most ceiling, track window at least timing step (R142, R144). -/
def RawProfile.related (r : RawProfile) : Bool :=
  decide (r.powerFloor ≤ r.powerCeiling) && decide (r.timingStep ≤ r.trackWindow)

/-- The profile the fields give, when checks 2 to 4 of R144 pass. -/
def RawProfile.check (r : RawProfile) : Option Profile :=
  match endConditionOf r.endCode, silenceModeOf r.modeCode with
  | some endCondition, some silenceMode =>
    if r.inRange && r.related then
      some { target := r.target, powerDeadband := r.powerDeadband, powerStep := r.powerStep,
             powerFloor := r.powerFloor, powerCeiling := r.powerCeiling, timingDeadband := r.timingDeadband,
             timingStep := r.timingStep, trackWindow := r.trackWindow, acquisitionWindow := r.acquisitionWindow,
             freqDeadband := r.freqDeadband, lockTiming := r.lockTiming, lockPower := r.lockPower,
             lockBursts := r.lockBursts, budget := r.budget, endCondition := endCondition,
             silenceLimit := r.silenceLimit, silenceMode := silenceMode, smoothing := r.smoothing,
             tapThreshold := r.tapThreshold, deliveryLimit := r.deliveryLimit, settle := r.settle }
    else none
  | _, _ => none

/-- The symbol rate a code names (R175). -/
def rateOf : Nat → Option SymbolRate
  | 0 => some .low
  | 1 => some .mid
  | 2 => some .high
  | _ => none

/-- The settings a LANE_SET gives, when each lies within the values of R62. -/
def settingsOf (rate preamble lookahead : Nat) (floor : Int) (margin openWindow : Nat) : Option Settings :=
  match rateOf rate with
  | none => none
  | some r =>
    if (preamble = 16 ∨ preamble = 32 ∨ preamble = 64) ∧ within lookahead 64 65535 ∧ within floor (-320) 80 ∧
        within margin 8 255 ∧ within openWindow 256 262143 then
      some { rate := r, preamble := preamble, lookahead := lookahead, defaultFloor := floor, margin := margin,
             openWindow := openWindow }
    else none

/-- The monitor mode a code names (R175). -/
def noiseModeOf : Nat → Option NoiseMode
  | 0 => some .off
  | 1 => some .periodic
  | 2 => some .every
  | _ => none

/-- The view a code names (R175). -/
def viewOf : Nat → Option View
  | 0 => some .summary
  | 1 => some .full
  | _ => none

end Sys2Proof.Machine
end

