-- ==== Sys2Proof/Machine/Ops.lean ====
section
/-! DEFINITION. The named operations over the part's state that the commands share: lanes, banks and profiles by
number, the station table and the tag map, the report queue and the outgoing direction, bank reads and the arbiter,
holds, posts, the deadline list, and the gap mark. -/

namespace Sys2Proof.Machine

/-- What a command answers. -/
abbrev Result := Host.Outcome State Fault Refusal

/-! ### Parts of the state by number -/

/-- "Now": the count of the plant clock (R43). -/
def State.now (s : State) : Time := s.clock.count

/-- A lane. -/
def State.lane (s : State) (l : LaneId) : Lane := s.lanes[l]

/-- Replaces a lane. -/
def State.setLane (s : State) (l : LaneId) (x : Lane) : State := { s with lanes := s.lanes.set l x }

/-- A bank. -/
def State.bank (s : State) (b : BankId) : Bank := s.banks[b]

/-- Replaces a bank. -/
def State.setBank (s : State) (b : BankId) (x : Bank) : State := { s with banks := s.banks.set b x }

/-- A profile's entry. -/
def State.profileEntry (s : State) (p : ProfileId) : ProfileEntry := s.profiles[p]

/-- A profile's fields as they stand (R143). -/
def State.profile (s : State) (p : ProfileId) : Profile := (s.profileEntry p).fields

/-- Replaces a profile's entry. -/
def State.setProfileEntry (s : State) (p : ProfileId) (x : ProfileEntry) : State :=
  { s with profiles := s.profiles.set p x }

/-! ### The arrays of the station table (R28) and the tag map (R12)

Both are lists in one canonical form: keys strictly rising, and no entry equal to what an unlisted key reads as. -/

/-- The record an array holds for a slot; a slot not listed holds the reset record (R11, R42). -/
def tableRead : List (Nat × Record) → Nat → Record
  | [], _ => Record.atReset
  | (k, v) :: rest, slot => if k = slot then v else tableRead rest slot

/-- The list without the slot's entry, or with it set. -/
def tableCons (slot : Nat) (image : Record) (rest : List (Nat × Record)) : List (Nat × Record) :=
  if image = Record.atReset then rest else (slot, image) :: rest

/-- Writes a whole record into an array, keeping the canonical form (R35). -/
def tableWrite (slot : Nat) (image : Record) : List (Nat × Record) → List (Nat × Record)
  | [] => tableCons slot image []
  | (k, v) :: rest =>
    if slot < k then tableCons slot image ((k, v) :: rest)
    else if slot = k then tableCons slot image rest
    else (k, v) :: tableWrite slot image rest

/-- Every key of the list lies above the bound, and they rise strictly. -/
def keysAbove {α : Type} : Option Nat → List (Nat × α) → Bool
  | _, [] => true
  | bound, (k, _) :: rest => (match bound with | none => true | some b => decide (b < k)) && keysAbove (some k) rest

/-- The canonical form of an array. -/
def tableWf (t : List (Nat × Record)) : Bool := keysAbove none t && t.all fun e => decide (e.2 ≠ Record.atReset)

/-- The slot a tag is mapped to, if any (R12). -/
def tagFind : List (Nat × Nat) → Nat → Option Nat
  | [], _ => none
  | (t, slot) :: rest, tag => if t = tag then some slot else tagFind rest tag

/-- Maps one tag to a slot. -/
def tagInsert (tag slot : Nat) : List (Nat × Nat) → List (Nat × Nat)
  | [] => [(tag, slot)]
  | (t, v) :: rest =>
    if tag < t then (tag, slot) :: (t, v) :: rest
    else if tag = t then (tag, slot) :: rest
    else (t, v) :: tagInsert tag slot rest

/-- Makes exactly the given tags be mapped to a slot, as the post of its image does (R12, R33; log entry 27). -/
def tagAssign (slot : Nat) (tags : List Nat) (map : List (Nat × Nat)) : List (Nat × Nat) :=
  tags.foldl (fun m t => tagInsert t slot m) (map.filter fun e => decide (e.2 ≠ slot))

/-- The canonical form of the tag map. -/
def tagMapWf (map : List (Nat × Nat)) : Bool := keysAbove none map

/-- The image of a slot posted most recently, if the queue holds one (R36). -/
def newestPosted : List Posted → Nat → Option Record
  | [], _ => none
  | p :: rest, slot =>
    match newestPosted rest slot with
    | some image => some image
    | none => if p.slot = slot then some p.image else none

/-- What a read of a slot granted now returns: the newest posted image, or else the array's record (R36). -/
def Bank.image (b : Bank) (slot : Nat) : Record := (newestPosted b.queue slot).getD (tableRead b.array slot)

/-- The record of a slot as every read granted now sees it (R33, R36). -/
def State.record (s : State) (slot : Nat) : Record := (s.bank (bankOf slot)).image slot

/-! ### The outgoing direction and the report queue (R166 to R170) -/

/-- The reply that is to be sent next, if the oldest entry of the reply order has one: its own reply first, then its
FULL replies (R169). -/
def dueReply : List ReplyEntry → Option Reply
  | [] => none
  | e :: _ =>
    match e.reply with
    | none => none
    | some r =>
      if e.sent then
        match e.refused with
        | [] => none
        | code :: _ => some { code := code, status := .full, body := .empty }
      else some r

/-- The reply order after the reply being sent from its oldest entry has been sent (R169). -/
def settleReply : List ReplyEntry → List ReplyEntry
  | [] => []
  | e :: rest =>
    if e.sent then
      match e.refused with
      | [] => rest
      | [_] => rest
      | _ :: more => { e with refused := more } :: rest
    else
      match e.refused with
      | [] => rest
      | _ :: _ => { e with sent := true } :: rest

/-- When the outgoing direction is free, it chooses the next frame: a due reply, else the report at the head (R169). -/
def State.startSending (s : State) : State :=
  match s.sending with
  | some _ => s
  | none =>
    match dueReply s.replies with
    | some r => { s with sending := some (.reply r) }
    | none =>
      match s.reports with
      | [] => s
      | r :: rest => { s with sending := some (.report r), reports := rest }

/-- The report queue has a free entry (R170). -/
def State.reportRoom (s : State) : Bool := decide (s.reports.length < Config.reportQueue)

/-- Offers a report: it enters at the tail, or it is dropped and REPORT_DROPPED is raised (R170). -/
def State.offer (r : Report) (s : State) : State :=
  if s.reportRoom then State.startSending { s with reports := s.reports ++ [r] } else s.raise .reportDropped

/-- Offers reports one after another. -/
def State.offerAll (rs : List Report) (s : State) : State := rs.foldl (fun s r => s.offer r) s

/-- The gap mark while a writer offers reports under a hold: whether the next report that enters the queue carries
GAP, and the flag the new image will hold (R10, R105, R171). -/
structure GapTrack where
  owed : Bool
  flag : Bool
deriving DecidableEq, Repr

/-- At the read under the hold. -/
def GapTrack.start (image : Record) : GapTrack := { owed := image.gap, flag := image.gap }

/-- Offers a report under the slot's hold: the first one to enter the queue carries the GAP mark when the flag was set
in the image as read, and clears it; a dropped one sets it (R105, R171). -/
def State.offerHeld (make : Bool → Report) (sg : State × GapTrack) : State × GapTrack :=
  if sg.1.reportRoom then
    (sg.1.offer (make sg.2.owed), { owed := false, flag := if sg.2.owed then false else sg.2.flag })
  else (sg.1.offer (make false), { sg.2 with flag := true })

/-- Completes the reply of the request in hand: the oldest entry of the reply order that has none (R167). -/
def fillReply (status : Status) (body : ReplyBody) : List ReplyEntry → List ReplyEntry
  | [] => []
  | e :: rest =>
    match e.reply with
    | none => { e with reply := some { code := e.code, status := status, body := body } } :: rest
    | some _ => e :: fillReply status body rest

/-- The command engine forms its reply and is free again (R167). -/
def State.answer (status : Status) (body : ReplyBody) (s : State) : State :=
  State.startSending { s with command := .idle, replies := fillReply status body s.replies }

/-- A refusal: the code and the status alone (R167). -/
def State.refuse (status : Status) (s : State) : State := s.answer status .empty

/-- The request at the head of the request queue, when the command engine is free to take it and its frame is sound
(R165, R167). -/
def State.headRequest (s : State) : Option Request :=
  match s.command, s.requests with
  | .idle, frame :: _ => parseRequest frame
  | _, _ => none

/-- The command engine takes the head of the request queue (R167). -/
def State.takeRequest (s : State) : State := { s with requests := s.requests.tail }

/-! ### Bank reads and the arbiter (R28 to R32) -/

/-- The class of a requester at the arbiter, lowest first (R30). -/
def Requester.rank : Requester → Nat
  | .lookup _ _ => 0
  | .update => 1
  | .command => 2
  | .timer => 3
  | .sweep => 4

/-- Read x is granted before read y: by class, and among lookups by grant start, then by lane (R30, R31). -/
def Requester.precedes : Requester → Requester → Bool
  | .lookup l g, .lookup l' g' => if g = g' then decide (l.val < l'.val) else atOrAfter g' g
  | x, y => decide (x.rank < y.rank)

/-- The waiting read that the arbiter takes first (R30, R31). DESIGN CHOICE: of lookups whose starts have no earliest one
modulo 2^32, the one that this fold from the newest read back leaves (log entry 35). -/
def bestRead : List ReadRequest → Option ReadRequest
  | [] => none
  | r :: rest =>
    match bestRead rest with
    | none => some r
    | some b => if b.who.precedes r.who then some b else some r

/-- The arbiter's choice when the bank is free: the best waiting read, the sweep's held back while the queue is full,
or else a drain (R30, R35). -/
def Bank.grant (now : Time) (b : Bank) : Bank :=
  match bestRead b.waiting with
  | some r =>
    if r.who = .sweep ∧ Config.postedWrites ≤ b.queue.length then { b with access := .drain }
    else { b with access := .read (some r.who) r.slot (b.image r.slot) now, waiting := b.waiting.erase r }
  | none => if b.queue.isEmpty then b else { b with access := .drain }

/-- The writer's post for this bank is waiting for room (R34). -/
def Phase.postsTo {ω : Type} (k : BankId) : Phase ω → Bool
  | .posting _ post => decide (bankOf post.slot = k)
  | _ => false

/-- Some post waits for room in this bank's queue (R34). -/
def State.postWaits (k : BankId) (s : State) : Bool :=
  s.update.postsTo k || s.command.postsTo k || s.timer.postsTo k

/-- This bank's posted-write queue has a free entry (R33). -/
def Bank.hasEntry (b : Bank) : Bool := decide (b.queue.length < Config.postedWrites)

/-- A free bank's arbiter makes its choice; a freed entry goes to a waiting post first (R30, R34; log entry 12). -/
def State.arbitrate (k : BankId) (s : State) : State :=
  if (s.bank k).access = .idle ∧ ¬ (s.postWaits k = true ∧ (s.bank k).hasEntry = true) then
    s.setBank k ((s.bank k).grant s.now)
  else s

/-- A requester asks for a read of a slot; an idle bank grants it at once (R29, R30). -/
def State.requestRead (who : Requester) (slot : Nat) (s : State) : State :=
  State.arbitrate (bankOf slot)
    (s.setBank (bankOf slot)
      { s.bank (bankOf slot) with waiting := (s.bank (bankOf slot)).waiting ++ [{ who := who, slot := slot }] })

/-- Withdraws reads from a bank: a waiting one leaves the waiting set, a granted one completes for nobody (R32). -/
def Bank.withdraw (gone : Requester → Bool) (b : Bank) : Bank :=
  { b with
    waiting := b.waiting.filter fun r => !gone r.who
    access :=
      match b.access with
      | .read (some who) slot image granted => if gone who then .read none slot image granted else b.access
      | a => a }

/-- Withdraws reads from every bank. -/
def State.withdrawReads (gone : Requester → Bool) (s : State) : State :=
  { s with banks := s.banks.map (Bank.withdraw gone) }

/-- The requester of a lookup of this lane's grant. -/
def isLookupOf (l : LaneId) (start : Time) (who : Requester) : Bool := decide (who = .lookup l start)

/-- Any lookup of this lane. -/
def isLookupOfLane (l : LaneId) : Requester → Bool
  | .lookup l' _ => decide (l' = l)
  | _ => false

/-- Any lookup. -/
def isLookup : Requester → Bool
  | .lookup _ _ => true
  | _ => false

/-! ### Holds (R38 to R40)

The hold of a slot has its one home in the phases of the three writers: a writer holds the slot from its read to its
post or release (log entry 11). -/

/-- The slot whose hold a writer in this phase has. -/
def Phase.heldSlot {ω : Type} : Phase ω → Option Nat
  | .reading slot _ => some slot
  | .ready slot _ _ => some slot
  | .posting _ post => some post.slot
  | _ => none

/-- The slot whose hold a writer in this phase waits for. -/
def Phase.awaitedSlot {ω : Type} : Phase ω → Option Nat
  | .waiting slot _ => some slot
  | _ => none

/-- The slot whose hold the command engine has: none for FETCH, which takes no hold (R23, R29). -/
def State.commandHeld (s : State) : Option Nat :=
  match s.command with
  | .reading _ (.fetch _ _) => none
  | .ready _ (.fetch _ _) _ => none
  | p => p.heldSlot

/-- Who has the hold of a slot (R38). -/
def State.holder (slot : Nat) (s : State) : Option Writer :=
  if s.update.heldSlot = some slot then some .update
  else if s.commandHeld = some slot then some .command
  else if s.timer.heldSlot = some slot then some .timer
  else none

/-- Some writer waits for the hold of a slot. -/
def State.awaited (slot : Nat) (s : State) : Bool :=
  decide (s.update.awaitedSlot = some slot) || decide (s.command.awaitedSlot = some slot) ||
  decide (s.timer.awaitedSlot = some slot)

/-- A writer that comes now takes the hold at once: it is free and nobody waits for it (R38, R40; log entry 13). -/
def State.holdFree (slot : Nat) (s : State) : Bool := decide (s.holder slot = none) && !s.awaited slot

/-- The update engine has the hold and asks for its read (R39, R87). -/
def State.updateReads (slot : Nat) (r : BurstResult) (s : State) : State :=
  State.requestRead .update slot { s with update := .reading slot r }

/-- The command engine has the hold, or needs none, and asks for its read (R16, R23). -/
def State.commandReads (slot : Nat) (r : Request) (s : State) : State :=
  State.requestRead .command slot { s with command := .reading slot r }

/-- The correction timer has the hold and asks for its read (R129). -/
def State.timerReads (slot : Nat) (e : DeadlineEntry) (s : State) : State :=
  State.requestRead .timer slot { s with timer := .reading slot e }

/-- The update engine goes for the hold of its result's slot (R87). -/
def State.updateAcquires (slot : Nat) (r : BurstResult) (s : State) : State :=
  if s.holdFree slot then s.updateReads slot r else { s with update := .waiting slot r }

/-- The command engine goes for the hold of a slot (R16). -/
def State.commandAcquires (slot : Nat) (r : Request) (s : State) : State :=
  if s.holdFree slot then s.commandReads slot r else { s with command := .waiting slot r }

/-- The correction timer goes for the hold of its entry's slot (R129). -/
def State.timerAcquires (slot : Nat) (e : DeadlineEntry) (s : State) : State :=
  if s.holdFree slot then s.timerReads slot e else { s with timer := .waiting slot e }

/-! ### The deadline list (R127, R128) -/

/-- An entry's deadline: issue time plus delivery limit, modulo 2^32 (R127). -/
def DeadlineEntry.deadline (e : DeadlineEntry) : Time := later e.issueTime e.limit

/-- The test of R128 at a count: an unmarked entry that is not held off expires when its elapsed time has reached its
delivery limit. -/
def DeadlineEntry.test (now : Time) (e : DeadlineEntry) : DeadlineEntry :=
  { e with expired := e.expired || (!e.heldOff && decide (e.limit ≤ elapsed now e.issueTime)) }

/-- Inserts an entry in order of deadline, behind those of an equal deadline (R127). DESIGN CHOICE: where deadlines lie
2^31 or more apart, as a slip can leave them, it goes ahead of the first entry that it is before (log entry 35). -/
def insertDeadline (e : DeadlineEntry) : List DeadlineEntry → List DeadlineEntry
  | [] => [e]
  | x :: rest => if before e.deadline x.deadline then e :: x :: rest else x :: insertDeadline e rest

/-- What a post does to the deadline list; an entry is tested as it joins (R127, R128). -/
def DeadlineChange.apply (now : Time) (c : DeadlineChange) (list : List DeadlineEntry) : List DeadlineEntry :=
  match c with
  | .keep => list
  | .join e => insertDeadline (e.test now) list
  | .leave slot => list.filter fun e => decide (e.slot ≠ slot)

/-- How the count changed (R128): by a tick, by a trim from an earlier value, or by the load of a slip. -/
inductive CountChange where
  | tick
  | trim (old : Time)
  | slip
deriving DecidableEq, Repr

/-- Whether a time that lies ahead of the count keeps its entry untested: a backward trim that passes the time sets
this, and reaching the time again, or a slip, ends it (R128, R180; log entry 17). -/
def holdOff (change : CountChange) (now : Time) (time : Time) (was : Bool) : Bool :=
  match change with
  | .tick => was && before now time
  | .trim old => before now time && (was || atOrAfter old time)
  | .slip => false

/-- An entry at a change of the count (R48, R128). -/
def DeadlineEntry.atCount (change : CountChange) (now : Time) (e : DeadlineEntry) : DeadlineEntry :=
  DeadlineEntry.test now { e with heldOff := holdOff change now e.issueTime e.heldOff }

/-- A prepared entry whose post waits for room, at a change of the count: it is not yet in the list and not tested,
but a trim can leave its issue time ahead of the count (R128). -/
def DeadlineChange.atCount (change : CountChange) (now : Time) : DeadlineChange → DeadlineChange
  | .join e => .join { e with heldOff := holdOff change now e.issueTime e.heldOff }
  | c => c

/-- The update engine's prepared deadline entry at a change of the count. -/
def postAtCount {ω : Type} (change : CountChange) (now : Time) : Phase ω → Phase ω
  | .posting work post => .posting work { post with deadline := post.deadline.atCount change now }
  | p => p

/-! ### Posts (R33, R34, R39) -/

/-- A use count falls by one (R26). -/
def State.releaseProfile (p : Option ProfileId) (s : State) : State :=
  match p with
  | none => s
  | some p => s.setProfileEntry p { s.profileEntry p with useCount := (s.profileEntry p).useCount - 1 }

/-- A use count rises by one (R26). -/
def State.takeProfile (p : Option ProfileId) (s : State) : State :=
  match p with
  | none => s
  | some p => s.setProfileEntry p { s.profileEntry p with useCount := (s.profileEntry p).useCount + 1 }

/-- The entry is taken: the image joins the queue, and the tag map, the deadline list and the use counts change with
it (R12, R26, R33, R124, R127). -/
def State.enterPost (p : Post) (s : State) : State :=
  let s := s.setBank (bankOf p.slot)
    { s.bank (bankOf p.slot) with queue := (s.bank (bankOf p.slot)).queue ++ [{ slot := p.slot, image := p.image }] }
  State.takeProfile p.taken
    (State.releaseProfile p.released
      { s with tagMap := tagAssign p.slot p.image.tags s.tagMap
               deadlines := p.deadline.apply s.now s.deadlines })

/-- A post completes; an idle bank may begin its drain at once (R30, R33). -/
def State.applyPost (p : Post) (s : State) : State := State.arbitrate (bankOf p.slot) (s.enterPost p)

/-- A post that comes now takes an entry at once: one is free and no post waits for it (R33, R34). DEDUCED: it does so
also when a read has taken the bank since the drain that freed the entry, where R34 lets it wait for the next drain
(log entry 33). -/
def State.postRoom (slot : Nat) (s : State) : Bool :=
  (s.bank (bankOf slot)).hasEntry && !s.postWaits (bankOf slot)

/-- The walk of CLEAR_ALL is over: the CLEARED report is offered, and the reply follows (R24, R27). -/
def State.walkEnds (s : State) : State :=
  (s.offer (.state { slot := none, old := none, new := .free, reason := .cleared, gap := false })).answer .ok .empty

/-- The walk has finished with a slot (R24). -/
def State.walkOn (slot : Nat) (s : State) : State :=
  if slot + 1 < Config.slots then { s with command := .atSlot (slot + 1) .clearAll } else s.walkEnds

/-- The command engine's post has completed: it replies OK, or the walk goes on (R16, R24). -/
def State.commandPosted (work : Request) (slot : Nat) (s : State) : State :=
  match work with
  | .clearAll => s.walkOn slot
  | _ => s.answer .ok .empty

/-- The update engine posts and releases its hold, or waits for room with the hold in hand (R39, R105). -/
def State.updatePosts (r : BurstResult) (p : Post) (s : State) : State :=
  if s.postRoom p.slot then State.applyPost p { s with update := .idle } else { s with update := .posting r p }

/-- The command engine posts, releases its hold and replies, or waits for room with the hold in hand (R16, R39). -/
def State.commandPosts (work : Request) (p : Post) (s : State) : State :=
  if s.postRoom p.slot then State.commandPosted work p.slot (State.applyPost p { s with command := .idle })
  else { s with command := .posting work p }

/-- The correction timer posts and is idle again, or waits for room with the hold in hand (R39, R129). -/
def State.timerPosts (e : DeadlineEntry) (p : Post) (s : State) : State :=
  if s.postRoom p.slot then State.applyPost p { s with timer := .idle } else { s with timer := .posting e p }

/-! ### Views of a record (R23) -/

/-- The state of a pending correction, without its delivery time (R23, R141). -/
def Delivery.named : Delivery → DeliveryState
  | .issued => .issued
  | .delivered _ => .delivered

/-- The SUMMARY view of a record. -/
def summaryOf (slot : Nat) (r : Record) : Summary :=
  { slot := slot, generation := r.generation, state := r.state, homeLane := r.homeLane, profile := r.profile,
    timing := r.timing, power := r.power, freq := r.freq, quality := r.quality, missCount := r.missCount,
    pending := r.pending.map fun c => (c.state.named, c.epoch) }

/-- What the FULL view adds. -/
def fullPartOf (r : Record) : FullPart :=
  { tags := r.tags, taps := r.taps, last := r.last, alignedCount := r.alignedCount, budget := r.budget,
    pending := r.pending, nextEpoch := r.nextEpoch, lastWithdrawn := r.lastWithdrawn, gap := r.gap }

/-- A record in a view. -/
def viewRecord (view : View) (slot : Nat) (r : Record) : RecordView :=
  { summary := summaryOf slot r
    fullPart := match view with | .summary => none | .full => some (fullPartOf r) }

/-! ### The symbol port (R81) -/

/-- Hands a unit to the symbol port: it is emitted at once, or it follows those before it. -/
def State.emit (u : SymbolUnit) (s : State) : State := { s with port := s.port ++ [u] }

/-- Hands units to the symbol port one after another. -/
def State.emitAll (us : List SymbolUnit) (s : State) : State := us.foldl (fun s u => s.emit u) s

end Sys2Proof.Machine
end

