-- ==== Sys2Proof/Machine/Alerts.lean ====
section
/-! DEFINITION. ALERT_READ, ALERT_ACK and ALERT_SET (R186 to R188). -/

namespace Sys2Proof.Machine

/-- ALERT_READ (R186): the set flags, the line and the first pending group. -/
def execAlertRead (s : State) : Result :=
  .next (match s.headRequest with
    | some .alertRead => s.takeRequest.answer .ok (.alert s.alert.flags s.alert.line s.alert.firstPending)
    | _ => s)

/-- A set field of twelve causes: bits 12 to 15 name no cause (R175). -/
def causeSet (bits : Nat) : Option (BitVec 12) := if bits < 4096 then some (BitVec.ofNat 12 bits) else none

/-- ALERT_ACK (R187): clears the named flags. -/
def execAlertAck (s : State) : Result :=
  .next (match s.headRequest with
    | some (.alertAck causes) =>
      let s := s.takeRequest
      match causeSet causes with
      | none => s.refuse .badArg
      | some named => { s with alert := { s.alert with flags := s.alert.flags &&& ~~~named } }.answer .ok .empty
    | _ => s)

/-- ALERT_SET (R188): enables, priorities and threshold take their new values together; the flags stay. -/
def execAlertSet (s : State) : Result :=
  .next (match s.headRequest with
    | some (.alertSet enables plant station flow service threshold) =>
      let s := s.takeRequest
      match causeSet enables with
      | none => s.refuse .badArg
      | some on =>
        if plant ≤ 3 ∧ station ≤ 3 ∧ flow ≤ 3 ∧ service ≤ 3 ∧ 1 ≤ threshold ∧ threshold ≤ 3 then
          { s with alert := { s.alert with enables := on, plant := plant, station := station, flow := flow,
                                           service := service, threshold := threshold } }.answer .ok .empty
        else s.refuse .badArg
    | _ => s)

end Sys2Proof.Machine
end

