-- ==== Sys2Proof/Machine/LaneOps.lean ====
section
/-! DEFINITION. Operations over one lane that several families share: the measurements in progress, the effective
floor, what a grant's reception knows of its slot, and the abandonment of held grants (R46, R54, R65, R75). -/

namespace Sys2Proof.Machine

/-- The slot a held grant's burst has: found at resolution and not given up (R68 to R70, R106). -/
def Reception.slot : Reception → Option Nat
  | .looking slot => some slot
  | .mismatch slot _ _ => some slot
  | .late slot _ => some slot
  | .station slot _ _ _ _ => some slot
  | _ => none

/-- The generation a held grant's burst has, once its lookup's read has completed (R69, R106). An orphan has none
(R82). DEDUCED: so the ABANDONED report of a grant that its completed read made an orphan carries no generation, and not
the slot that R69 does not keep (log entry 31). -/
def Reception.generation : Reception → Option Generation
  | .mismatch _ g _ => some g
  | .station _ g _ _ _ => some g
  | _ => none

/-- The equaliser's starting set of a burst, once it is fixed (R77): the taps its lookup chose for a station burst, and
the identity set for orphan, mismatch, LOOKUP_LATE and OPEN bursts (R67 to R70). None while the lookup is outstanding,
and for a QUIET grant, which holds no burst. -/
def Reception.startingSet : Reception → Option TapSet
  | .station _ _ _ _ startTaps => some startTaps
  | .orphan _ => some identityTaps
  | .mismatch _ _ _ => some identityTaps
  | .late _ _ => some identityTaps
  | .newcomer => some identityTaps
  | .looking _ => none
  | .quietWaiting => none
  | .quietMeasuring => none
  | .quietPassed => none

/-- How many measurements are in progress on the lane (R156). -/
def Lane.measuring (l : Lane) : Nat := (l.held.filter fun h => decide (h.reception = .quietMeasuring)).length

/-- The busy flag: a measurement is in progress (R156). -/
def Lane.busy (l : Lane) : Bool := l.held.any fun h => decide (h.reception = .quietMeasuring)

/-- N_eff: the latched level, or the default floor while the monitor is unmeasured (R75). -/
def Lane.effectiveFloor (l : Lane) : Int :=
  match l.monitor.latched with
  | none => l.settings.defaultFloor
  | some k => k.level

/-- The lane has room for a next grant (R54). -/
def Lane.hasRoom (l : Lane) : Bool := decide (l.held.length < Config.heldGrants)

/-- The end of a grant on this lane (R49). -/
def Lane.endOf (l : Lane) (g : Grant) : Time := grantEnd l.settings.rate g.start g.length

/-- A BURST report that a lane offers itself, without measurements or flags (R83, R86, R106). -/
def laneBurstReport (lane : LaneId) (g : Grant) (slot : Option Nat) (generation : Option Generation)
    (outcome : BurstOutcome) : Report :=
  .burst { lane := lane, start := g.start, kind := g.kind, tag := g.tag, slot := slot, generation := generation,
           outcome := outcome, measured := none, quality := none, timingLimit := false, powerLimit := false,
           clipped := false, pre := false, gap := false }

/-- The ABANDONED report of a held grant; none for a QUIET grant (R46, R65). -/
def Held.abandonReport (lane : LaneId) (h : Held) : Option Report :=
  if h.grant.kind = .quiet then none
  else some (laneBurstReport lane h.grant h.reception.slot h.reception.generation .abandoned)

/-- The symbol-port unit of an abandoned grant: its header alone; none for a QUIET grant (R65, R81). -/
def Held.abandonUnit (lane : LaneId) (h : Held) : Option SymbolUnit :=
  if h.grant.kind = .quiet then none
  else some { lane := lane, start := h.grant.start, tag := h.grant.tag, outcome := .abandoned, count := 0, symbols := [] }

/-- The reports of a lane at a flush, in their order: ABANDONED of the grant being received, of the next grant, then
LANE_FLUSH when grants were removed (R46, R58, R65). -/
def Lane.flushReports (lane : LaneId) (reason : FlushReason) (l : Lane) : List Report :=
  l.held.filterMap (Held.abandonReport lane) ++
    (if l.queue.isEmpty then [] else [.laneFlush { lane := lane, reason := reason, count := l.queue.length }])

/-- The units of a lane at a flush (R81). -/
def Lane.flushUnits (lane : LaneId) (l : Lane) : List SymbolUnit := l.held.filterMap (Held.abandonUnit lane)

/-- A lane after a flush: no queue, no tail reference, no held grant, and with them no measurement (R46, R59, R65). -/
def Lane.flushed (l : Lane) : Lane := { l with queue := [], tail := none, held := [] }

/-- The interval test of a monitor at a count (R155). -/
def Monitor.testInterval (now : Time) (m : Monitor) : Monitor :=
  match m.latched with
  | none => m
  | some k => { m with mark := m.mark || decide (m.interval ≤ elapsed now k.lastStart) }

/-- A lane at a change of the count (R155). -/
def Lane.atCount (now : Time) (l : Lane) : Lane := { l with monitor := l.monitor.testInterval now }

/-- The first held grant that a test picks, changed; none when the test picks none. -/
def changeFirst (p : Held → Bool) (f : Held → Held) : List Held → Option (List Held)
  | [] => none
  | h :: rest => if p h then some (f h :: rest) else (changeFirst p f rest).map (h :: ·)

end Sys2Proof.Machine
end

