-- ==== Sys2Proof/Machine/Clock.lean ====
section
/-! DEFINITION. Reset and the plant clock: RESET, TICK, SYNC_PULSE and CLOCK_SET (R11, R43 to R48). -/

namespace Sys2Proof.Machine

/-- RESET (R11, R42, R43 and the reset values of every block): every piece of state takes its reset value; the
commands that wait stay (log entry 5). -/
def execReset (s : State) : Result := .next { State.reset with pending := s.pending }

/-- The sweep's start time at a change of the count (R180). -/
def SweepEngine.atCount (change : CountChange) (now : Time) (e : SweepEngine) : SweepEngine :=
  { e with run := e.run.map fun r => { r with heldOff := holdOff change now r.start r.heldOff } }

/-- What every change of the count does beside the count: the deadline test of every entry, and the interval test of
every monitor (R128, R155; log entry 3). -/
def State.countChanged (change : CountChange) (s : State) : State :=
  { s with
    deadlines := s.deadlines.map (DeadlineEntry.atCount change s.now)
    update := postAtCount change s.now s.update
    lanes := s.lanes.map (Lane.atCount s.now)
    sweep := s.sweep.atCount change s.now }

/-- TICK (R43): the count advances by one, from 2^32 − 1 to 0. -/
def execTick (s : State) : Result :=
  .next (State.countChanged .tick { s with clock := { s.clock with count := s.clock.count + 1 } })

/-- What the lanes give at a slip, merged in the given order of lanes; what the order does not name follows in lane
order, and each lane's own order is kept (R46; log entry 9). -/
def interleave {α : Type} : List LaneId → Vector (List α) 4 → List α
  | [], v => v[0] ++ v[1] ++ v[2] ++ v[3]
  | l :: rest, v =>
    match v[l] with
    | [] => interleave rest v
    | x :: more => x :: interleave rest (v.set l more)

/-- One value for each lane. -/
def perLane {α : Type} (f : LaneId → α) : Vector α 4 := #v[f 0, f 1, f 2, f 3]

/-- The effects of a slip beside the load of the count (R46 to R48): every lane is flushed and its held grants
abandoned, lookups are withdrawn, CLOCK_SLIP is raised. DEDUCED: the lanes' reports enter the queue in this one step, so
the WITHDRAWN report of a correction that the slip expires falls after them all (log entry 34). -/
def State.slip (reportOrder unitOrder : List LaneId) (s : State) : State :=
  let reports := interleave reportOrder (perLane fun l => (s.lane l).flushReports l .slip)
  let units := interleave unitOrder (perLane fun l => (s.lane l).flushUnits l)
  State.countChanged .slip
    (State.offerAll reports
      (State.emitAll units
        (State.withdrawReads isLookup ({ s with lanes := s.lanes.map Lane.flushed }.raise .clockSlip))))

/-- SYNC_PULSE (R45): ignored without an armed value; otherwise a first load, a trim within two ticks, or a slip. -/
def execSyncPulse (reportOrder unitOrder : List LaneId) (s : State) : Result :=
  .next (match s.clock.armed with
    | none => s
    | some v =>
      let loaded := { s with clock := { count := v, synchronised := true, armed := none } }
      if s.clock.synchronised then
        if within (signedDifference s.clock.count v) (-2) 2 then State.countChanged (.trim s.clock.count) loaded
        else loaded.slip reportOrder unitOrder
      else loaded)

/-- CLOCK_SET (R44): arms the value; the reply carries the count and the synchronised flag as they stand. -/
def execClockSet (s : State) : Result :=
  .next (match s.headRequest with
    | some (.clockSet v) =>
      let s := s.takeRequest
      { s with clock := { s.clock with armed := some v } }.answer .ok (.clock s.clock.count s.clock.synchronised)
    | _ => s)

end Sys2Proof.Machine
end

