-- ==== Sys2Proof/Machine/Intake.lean ====
section
/-! DEFINITION. Grant intake: GRANT_NOTICE and GRANT_HANDOVER (R49 to R56), with the start of a lookup (R67, R68). -/

namespace Sys2Proof.Machine

/-- The grant a sound notice asks for; it carries no tag for OPEN and QUIET (R49). -/
def Notice.grant (n : Notice) (kind : GrantKind) : Grant :=
  { start := n.start, length := n.length, kind := kind, tag := if kind.named then some n.tag else none }

/-- A notice that passes BAD_NOTICE, as the lane and the grant it names (R51 check 1, R172). -/
def Notice.sound (s : State) (n : Notice) : Option (LaneId × Grant) :=
  match laneOf n.lane, kindOf n.kind with
  | some lane, some kind =>
    if n.wellSized = true ∧ 32 ≤ n.length ∧ n.length ≤ 4096 ∧ (s.lane lane).settings.preamble < n.length ∧
        (kind.named = true → n.tag < Config.tags) then some (lane, n.grant kind)
    else none
  | _, _ => none

/-- The checks 2 to 8 of R51, in order: the reason of the first that fails. -/
def grantRefusal (clock : Clock) (l : Lane) (g : Grant) : Option RefusalReason :=
  if clock.synchronised = false then some .unsync
  else if l.mode = .off then some .laneOff
  else if before g.start (later clock.count l.settings.lookahead) then some .late
  else if Config.farLimit < elapsed g.start clock.count then some .far
  else
    match l.tail with
    | some t =>
      if before clock.count t.finish ∧ before g.start t.start then some .order
      else if before clock.count t.finish ∧ before g.start t.finish then some .overlap
      else if Config.grantQueue ≤ l.queue.length then some .full
      else none
    | none => if Config.grantQueue ≤ l.queue.length then some .full else none

/-- A refused grant: GRANT_REFUSED is raised and its report offered (R52). -/
def State.refuseGrant (r : GrantRefusedReport) (s : State) : State := (s.raise .grantRefused).offer (.grantRefused r)

/-- The GRANT_REFUSED report of a notice, its fields as received (R52, R172). -/
def Notice.refusedReport (n : Notice) (reason : RefusalReason) : GrantRefusedReport :=
  { lane := n.lane, start := n.start, length := n.length, kind := n.kind, tag := n.reportedTag, reason := reason }

/-- A grant joins the tail of its lane's queue, and the tail reference takes its start and end (R51). -/
def Lane.append (g : Grant) (l : Lane) : Lane :=
  { l with queue := l.queue ++ [g], tail := some { start := g.start, finish := l.endOf g } }

/-- The judgement of a decoded notice (R51, R52). -/
def State.judgeNotice (n : Notice) (s : State) : State :=
  match n.sound s with
  | none => s.refuseGrant (n.refusedReport .badNotice)
  | some (lane, g) =>
    match grantRefusal s.clock (s.lane lane) g with
    | some reason => s.refuseGrant (n.refusedReport reason)
    | none => s.setLane lane ((s.lane lane).append g)

/-- GRANT_NOTICE (R51, R52, R172). -/
def execGrantNotice (frame : List Byte) (s : State) : Result := .next (s.judgeNotice (decodeNotice frame))

/-- The lane takes a grant as its next grant (R54, R55). -/
def Lane.hold (g : Grant) (r : Reception) (l : Lane) : Lane :=
  { l with held := l.held ++ [{ grant := g, reception := r }] }

/-- The lookup of a grant that names a transmitter: an unmapped tag makes an orphan at once, with profile 0's track
window; a mapped one asks for its slot's read (R68, R147). -/
def State.beginLookup (lane : LaneId) (g : Grant) (s : State) : State :=
  match g.tag.bind (tagFind s.tagMap) with
  | none =>
    (s.setLane lane ((s.lane lane).hold g (.orphan (s.profile 0).trackWindow))).raise .orphanGrant
  | some slot =>
    State.requestRead (.lookup lane g.start) slot (s.setLane lane ((s.lane lane).hold g (.looking slot)))

/-- A grant is handed to its lane, which treats it by its kind (R67). -/
def State.handOver (lane : LaneId) (g : Grant) (s : State) : State :=
  match g.kind with
  | .opened => s.setLane lane ((s.lane lane).hold g .newcomer)
  | .quiet => s.setLane lane ((s.lane lane).hold g .quietWaiting)
  | .acq => s.beginLookup lane g
  | .maint => s.beginLookup lane g
  | .data => s.beginLookup lane g

/-- A grant is due: the count, as it stands, is at or after its start less the lookahead (R55, R57). A head that waits for
room when a backward trim takes the count below that time waits to be due again (log entry 30). -/
def Lane.due (now : Time) (g : Grant) (l : Lane) : Bool :=
  atOrAfter now (g.start - BitVec.ofNat 32 l.settings.lookahead)

/-- GRANT_HANDOVER (R55, R56): a due head that meets room leaves the queue. If its start has come it is refused LATE;
otherwise it becomes the lane's next grant. -/
def execGrantHandover (lane : LaneId) (s : State) : Result :=
  .next (match (s.lane lane).queue with
    | [] => s
    | g :: rest =>
      if (s.lane lane).hasRoom && (s.lane lane).due s.now g then
        let left := s.setLane lane { s.lane lane with queue := rest }
        if atOrAfter s.now g.start then
          left.refuseGrant { lane := lane.val, start := g.start, length := g.length, kind := g.kind.code,
                             tag := g.tag, reason := .late }
        else left.handOver lane g
      else s)

end Sys2Proof.Machine
end

