-- ==== Sys2Proof/Machine/Lanes.lean ====
section
/-! DEFINITION. LANE_SET, LANE_START and LANE_STOP (R62 to R66). -/

namespace Sys2Proof.Machine

/-- LANE_SET (R63): BAD_ARG, then BUSY, then all six settings at once. -/
def execLaneSet (s : State) : Result :=
  .next (match s.headRequest with
    | some (.laneSet lane rate preamble lookahead floor margin openWindow) =>
      let s := s.takeRequest
      match laneOf lane, settingsOf rate preamble lookahead floor margin openWindow with
      | some l, some settings =>
        if (s.lane l).mode = .off then (s.setLane l { s.lane l with settings := settings }).answer .ok .empty
        else s.refuse .busy
      | _, _ => s.refuse .badArg
    | _ => s)

/-- LANE_START (R64): an OFF lane enters RUN. -/
def execLaneStart (s : State) : Result :=
  .next (match s.headRequest with
    | some (.laneStart lane) =>
      let s := s.takeRequest
      match laneOf lane with
      | some l =>
        if (s.lane l).mode = .off then (s.setLane l { s.lane l with mode := .run }).answer .ok .empty
        else s.refuse .busy
      | none => s.refuse .badArg
    | _ => s)

/-- A lane after LANE_STOP: OFF, flushed, its monitor unmeasured with the mode and interval kept (R65, R152). -/
def Lane.stopped (l : Lane) : Lane :=
  { l.flushed with
    mode := .off
    monitor := { l.monitor with latched := none, mark := false, consecutive := 0 } }

/-- The work of LANE_STOP on its lane: held grants abandoned with their units and reports, their lookups withdrawn, the
queue flushed, the lane OFF (R59, R65). -/
def State.stopLane (l : LaneId) (s : State) : State :=
  State.offerAll ((s.lane l).flushReports l .stopped)
    (State.emitAll ((s.lane l).flushUnits l)
      (State.withdrawReads (isLookupOfLane l) (s.setLane l (s.lane l).stopped)))

/-- LANE_STOP (R65): carried out whatever the lane's state; the reply follows the reports. -/
def execLaneStop (s : State) : Result :=
  .next (match s.headRequest with
    | some (.laneStop lane) =>
      match laneOf lane with
      | some l => (State.stopLane l s.takeRequest).answer .ok .empty
      | none => s.takeRequest.refuse .badArg
    | _ => s)

end Sys2Proof.Machine
end

