-- ==== Sys2Proof/Machine/Link.lean ====
section
/-! DEFINITION. The station link: REQUEST_ARRIVAL, BAD_REQUEST and OUTGOING_FRAME_END (R165 to R170). -/

namespace Sys2Proof.Machine

/-- A request refused at a full queue: it is counted at the newest entry of the reply order, or discarded when that
count stands at its limit (R166). -/
def countRefusal (code : Nat) : List ReplyEntry → List ReplyEntry
  | [] => []
  | [e] => if e.refused.length < Config.refusals then [{ e with refused := e.refused ++ [code] }] else [e]
  | e :: x :: rest => e :: countRefusal code (x :: rest)

/-- REQUEST_ARRIVAL (R166): the request joins queue and reply order, or is counted FULL and REQUEST_OVERRUN raised. -/
def execRequestArrival (frame : List Byte) (s : State) : Result :=
  .next (if s.requests.length < Config.requestQueue then
      { s with
        requests := s.requests ++ [frame]
        replies := s.replies ++ [{ code := requestCode frame, reply := none, sent := false, refused := [] }] }
    else { s with replies := countRefusal (requestCode frame) s.replies }.raise .requestOverrun)

/-- BAD_REQUEST (R165): the free command engine takes a frame of an unknown code or a wrong length and answers it. -/
def execBadRequest (s : State) : Result :=
  .next (match s.command, s.requests with
    | .idle, frame :: _ =>
      match parseRequest frame with
      | none => s.takeRequest.refuse .badRequest
      | some _ => s
    | _, _ => s)

/-- OUTGOING_FRAME_END (R169): the frame being sent ends, and the free direction chooses the next. -/
def execOutgoingFrameEnd (s : State) : Result :=
  .next (match s.sending with
    | none => s
    | some (.report _) => State.startSending { s with sending := none }
    | some (.reply _) => State.startSending { s with sending := none, replies := settleReply s.replies })

end Sys2Proof.Machine
end

