-- ==== Sys2Proof/Machine/Noise.lean ====
section
/-! DEFINITION. Noise monitors: QUIET_START, QUIET_GRANT_DONE, NOISE_LATCH, INTERVAL_MARK, NOISE_MODE and NOISE_STATUS
(spec/09). -/

namespace Sys2Proof.Machine

/-- The monitor's decision at the start of a QUIET grant (R154). -/
def Monitor.measures (m : Monitor) : Bool :=
  match m.mode with
  | .off => false
  | .periodic => m.latched.isNone || m.mark
  | .every => true

/-- A held QUIET grant that has not been decided and whose start has come (R154). -/
def Held.quietDue (now : Time) (h : Held) : Bool :=
  decide (h.reception = .quietWaiting) && atOrAfter now h.grant.start

/-- QUIET_START (R154): the first held QUIET grant whose start has come is measured or passed over, by the mode. -/
def execQuietStart (lane : LaneId) (s : State) : Result :=
  .next (match changeFirst (Held.quietDue s.now)
      (fun h => { h with reception := if (s.lane lane).monitor.measures then .quietMeasuring else .quietPassed })
      (s.lane lane).held with
    | none => s
    | some held => s.setLane lane { s.lane lane with held := held })

/-- The grant being received is of this reception, and its end has come (R54, R73). -/
def Lane.headEnded (now : Time) (r : Reception) (l : Lane) : Option Grant :=
  match l.held with
  | [] => none
  | h :: _ => if h.reception = r ∧ atOrAfter now (l.endOf h.grant) = true then some h.grant else none

/-- QUIET_GRANT_DONE (R54, R154): a passed-over QUIET grant is done at its end, or when the grant ahead is done. -/
def execQuietGrantDone (lane : LaneId) (s : State) : Result :=
  .next (match (s.lane lane).headEnded s.now .quietPassed with
    | none => s
    | some _ => s.setLane lane { s.lane lane with held := (s.lane lane).held.tail })

/-- The grade of a level: clamp(floor((N + 240) / 16), 0, 15) (R157). -/
def gradeOf (level : Int) : Nat := (clamp (floorDiv (level + 240) 16) 0 15).toNat

/-- What a latch leaves of the consecutive count and the lane's state (R159). -/
structure StormStep where
  consecutive : Nat
  mode : LaneMode
  transition : StormTransition
deriving DecidableEq, Repr

/-- The table of R159. -/
def stormStep (mode : LaneMode) (consecutive grade : Nat) : StormStep :=
  match mode with
  | .run =>
    if grade = 15 then
      if 4 ≤ consecutive + 1 then { consecutive := 4, mode := .storm, transition := .entered }
      else { consecutive := consecutive + 1, mode := .run, transition := .none }
    else { consecutive := 0, mode := .run, transition := .none }
  | .storm =>
    if grade = 15 then { consecutive := min 4 (consecutive + 1), mode := .storm, transition := .none }
    else if grade = 14 then { consecutive := 0, mode := .storm, transition := .none }
    else { consecutive := 0, mode := .run, transition := .left }
  | .off => { consecutive := consecutive, mode := .off, transition := .none }

/-- The alert cause of a transition (R159). -/
def State.raiseTransition (t : StormTransition) (s : State) : State :=
  match t with
  | .none => s
  | .entered => s.raise .stormEnter
  | .left => s.raise .stormLeave

/-- What a measurement latches (R157). -/
def latchOf (start : Time) (power : Int) : Latched :=
  { level := clamp power (-320) 80, saturated := clampBites power (-320) 80, grade := gradeOf (clamp power (-320) 80),
    lastStart := start }

/-- A lane after a latch: level, grade and last start latched, the mark cleared, the storm step taken, and the grant
done (R54, R157). -/
def Lane.latch (start : Time) (power : Int) (l : Lane) : Lane :=
  let step := stormStep l.mode l.monitor.consecutive (latchOf start power).grade
  { l with
    mode := step.mode
    held := l.held.tail
    monitor := { l.monitor with latched := some (latchOf start power), mark := false, consecutive := step.consecutive } }

/-- The NOISE report of a latch: the results of the latch's steps (R158). -/
def noiseReport (lane : LaneId) (start : Time) (power : Int) (step : StormStep) : NoiseReport :=
  { lane := lane, start := start, level := (latchOf start power).level, saturated := (latchOf start power).saturated,
    grade := (latchOf start power).grade, consecutive := step.consecutive, mode := step.mode,
    transition := step.transition }

/-- NOISE_LATCH (R157 to R159): the measurement of the grant being received completes. -/
def execNoiseLatch (lane : LaneId) (power : Int) (s : State) : Result :=
  .next (match (s.lane lane).headEnded s.now .quietMeasuring with
    | none => s
    | some g =>
      let step := stormStep (s.lane lane).mode (s.lane lane).monitor.consecutive (latchOf g.start power).grade
      State.offer (.noise (noiseReport lane g.start power step))
        (State.raiseTransition step.transition (s.setLane lane ((s.lane lane).latch g.start power))))

/-- INTERVAL_MARK (R155): the mark is set when at least the interval has passed since the last start. -/
def execIntervalMark (lane : LaneId) (s : State) : Result :=
  .next (s.setLane lane ((s.lane lane).atCount s.now))

/-- The monitor with a new mode and interval; the new interval is tested at once (R153, R155). -/
def Monitor.setMode (now : Time) (mode : NoiseMode) (seconds : Nat) (m : Monitor) : Monitor :=
  Monitor.testInterval now { m with mode := mode, interval := seconds * ticksPerSecond }

/-- NOISE_MODE (R153). -/
def execNoiseMode (s : State) : Result :=
  .next (match s.headRequest with
    | some (.noiseMode lane mode seconds) =>
      let s := s.takeRequest
      match laneOf lane, noiseModeOf mode with
      | some l, some m =>
        if 1 ≤ seconds ∧ seconds ≤ 60 then
          (s.setLane l { s.lane l with monitor := (s.lane l).monitor.setMode s.now m seconds }).answer .ok .empty
        else s.refuse .badArg
      | _, _ => s.refuse .badArg
    | _ => s)

/-- The monitor as NOISE_STATUS shows it (R163). -/
def noiseStatusOf (lane : LaneId) (l : Lane) : NoiseStatus :=
  { lane := lane, mode := l.mode, monitorMode := l.monitor.mode, seconds := l.monitor.interval / ticksPerSecond,
    busy := l.busy, latched := l.monitor.latched, mark := l.monitor.mark, consecutive := l.monitor.consecutive,
    effectiveFloor := l.effectiveFloor }

/-- NOISE_STATUS (R163). -/
def execNoiseStatus (s : State) : Result :=
  .next (match s.headRequest with
    | some (.noiseStatus lane) =>
      let s := s.takeRequest
      match laneOf lane with
      | some l => s.answer .ok (.noise (noiseStatusOf l (s.lane l)))
      | none => s.refuse .badArg
    | _ => s)

end Sys2Proof.Machine
end

