-- ==== Sys2Proof/Machine/Profiles.lean ====
section
/-! DEFINITION. PROFILE_SET and PROFILE_GET (R142 to R146). -/

namespace Sys2Proof.Machine

/-- PROFILE_SET (R144): BAD_ARG, then BAD_PROFILE, then IN_USE, then all twenty-one fields at one event. -/
def execProfileSet (s : State) : Result :=
  .next (match s.headRequest with
    | some (.profileSet profile raw) =>
      let s := s.takeRequest
      match profileOf profile with
      | none => s.refuse .badArg
      | some p =>
        match raw.check with
        | none => s.refuse .badProfile
        | some fields =>
          if (s.profileEntry p).useCount = 0 then
            (s.setProfileEntry p { s.profileEntry p with fields := fields }).answer .ok .empty
          else s.refuse .inUse
    | _ => s)

/-- PROFILE_GET (R146). -/
def execProfileGet (s : State) : Result :=
  .next (match s.headRequest with
    | some (.profileGet profile) =>
      let s := s.takeRequest
      match profileOf profile with
      | none => s.refuse .badArg
      | some p => s.answer .ok (.profile p (s.profile p) (s.profileEntry p).useCount)
    | _ => s)

end Sys2Proof.Machine
end

