-- ==== Sys2Proof/Machine/Alignment.lean ====
section
/-! DEFINITION. The alignment arithmetic, as functions of one result, one record and one profile (spec/05), and the
classification of a burst (R133). Exact integer arithmetic; nothing wraps. -/

namespace Sys2Proof.Machine

/-- The class of a burst (R90, R133). -/
inductive BurstClass where
  | ordinary | pre | post
deriving DecidableEq, Repr

/-- The class of a burst of start G against a pending correction and a settle time (R133; R71 and R77 at lookup). -/
def classify (pending : Option Correction) (start : Time) (settle : Nat) : BurstClass :=
  match pending with
  | none => .ordinary
  | some c =>
    match c.state with
    | .issued => .pre
    | .delivered d => if before start (later d settle) then .pre else .post

/-- The quality level: clamp(floor((M − 40) / 8), 0, 15) (R92). -/
def qualityOf (mer : Int) : Nat := (clamp (floorDiv (mer - 40) 8) 0 15).toNat

/-- A computed adjust: the new value, the delta, and whether the range clamp bit. -/
structure Step where
  value : Int
  delta : Int
  limit : Bool
deriving DecidableEq, Repr

/-- A skipped step leaves its adjust, gives a delta of 0 and no flag (R91). -/
def Step.skipped (x : Int) : Step := { value := x, delta := 0, limit := false }

/-- The timing step s of a measured error (R93). -/
def timingMove (p : Profile) (state : StationState) (e : Int) : Int :=
  if e.natAbs ≤ p.timingDeadband then 0
  else if state = .track then clamp e (-(p.timingStep : Int)) p.timingStep
  else e

/-- A′, the timing delta and TIMING_LIMIT (R94). -/
def timingStep (p : Profile) (r : Record) (e : Int) : Step :=
  let x := r.timing + timingMove p r.state e
  { value := clamp x 0 2097151, delta := clamp x 0 2097151 - r.timing, limit := clampBites x 0 2097151 }

/-- The power step d of a measured level (R95). -/
def powerMove (p : Profile) (state : StationState) (level : Int) : Int :=
  if (level - p.target).natAbs ≤ p.powerDeadband then 0
  else if state = .track then clamp (-(level - p.target)) (-(p.powerStep : Int)) p.powerStep
  else -(level - p.target)

/-- W′, the power delta and POWER_LIMIT (R96). -/
def powerStep (p : Profile) (r : Record) (level : Int) : Step :=
  let x := r.power + powerMove p r.state level
  { value := clamp x p.powerFloor p.powerCeiling, delta := clamp x p.powerFloor p.powerCeiling - r.power,
    limit := clampBites x p.powerFloor p.powerCeiling }

/-- F′ and the frequency delta; the frequency clamp sets no flag (R97). -/
def freqStep (p : Profile) (r : Record) (f : Int) : Step :=
  if f.natAbs ≤ p.freqDeadband then Step.skipped r.freq
  else { value := clamp (r.freq - f) (-20000) 20000, delta := clamp (r.freq - f) (-20000) 20000 - r.freq,
         limit := false }

/-- One component smoothed toward the trained one: w + round((c − w) / 2^m) (R98). -/
def smooth (m : Nat) (w c : Int) : Int := w + roundShift (c - w) m

/-- The smoothed set (R98). -/
def smoothTaps (m : Nat) (w c : TapSet) : TapSet := w.zip (smooth m) c

/-- The energy of one tap. -/
def tapEnergy (t : Tap) : Nat := (t.re * t.re + t.im * t.im).toNat

/-- The off-main energy S (R100). -/
def offMainEnergy (t : TapSet) : Nat :=
  tapEnergy t.t0 + tapEnergy t.t1 + tapEnergy t.t3 + tapEnergy t.t4 + tapEnergy t.t5 + tapEnergy t.t6 + tapEnergy t.t7

/-- The main energy (R100). -/
def mainEnergy (t : TapSet) : Nat := tapEnergy t.t2

/-- The tap ratio R (R100). -/
def tapRatio (t : TapSet) : Nat :=
  if mainEnergy t = 0 then 1023 else min 1023 (1024 * offMainEnergy t / mainEnergy t)

/-- The taps from which the smoothing starts: identity when the burst absorbs a correction that carried a tap set
(R90, R98, R135). -/
def smoothingStart (r : Record) (cls : BurstClass) : TapSet :=
  match cls, r.pending with
  | .post, some c => if c.taps.isSome then identityTaps else r.taps
  | _, _ => r.taps

/-- What the arithmetic makes of a CLEAN result (R91). -/
structure Worked where
  quality : Nat
  timing : Step
  power : Step
  freq : Step
  taps : TapSet
  sendTaps : Bool
deriving DecidableEq, Repr

/-- The steps a CLEAN result runs, by the state as read and the class (R91). A burst that absorbs runs the steps of an
ordinary one (R90). -/
def work (p : Profile) (r : Record) (cls : BurstClass) (m : Measurement) (trained : TapSet) : Worked :=
  let taps := smoothTaps p.smoothing (smoothingStart r cls) trained
  let base : Worked :=
    { quality := qualityOf m.mer, timing := Step.skipped r.timing, power := Step.skipped r.power,
      freq := Step.skipped r.freq, taps := taps, sendTaps := false }
  match r.state with
  | .lost => base
  | .free => base
  | .acquire | .track =>
    let stepped := { base with power := powerStep p r m.power, freq := freqStep p r m.freq }
    if cls = .pre then stepped
    else { stepped with
             timing := timingStep p r m.error
             sendTaps := decide (r.state = .track) && decide (p.tapThreshold ≤ tapRatio taps) }

/-- The decision: a correction is called for (R102). -/
def callsForCorrection (r : Record) (cls : BurstClass) (storm : Bool) (w : Worked) : Bool :=
  decide (cls ≠ .pre) && (decide (r.state = .acquire) || decide (r.state = .track)) && !storm &&
  (decide (w.timing.delta ≠ 0) || decide (w.power.delta ≠ 0) || decide (w.freq.delta ≠ 0) || w.sendTaps)

end Sys2Proof.Machine
end

