-- ==== Sys2Proof/Machine/Reception.lean ====
section
/-! DEFINITION. Burst reception on the receive lanes: LOOKUP_READ_COMPLETE, WINDOW_OPEN, BURST_COMPLETE and
SYMBOL_UNIT_EMITTED (R69 to R83). -/

namespace Sys2Proof.Machine

/-! ### The lookup's outcome -/

/-- The half-width of a station burst (R72). -/
def stationHalfWidth (kind : GrantKind) (state : StationState) (p : Profile) : Nat :=
  if kind = .acq then p.acquisitionWindow else if state = .track then p.trackWindow else p.acquisitionWindow

/-- The centre shift of a station burst: the pending timing delta when the image makes it pre-correction (R71). -/
def centreShift (image : Record) (cls : BurstClass) : Int :=
  match cls, image.pending with
  | .pre, some c => c.timingDelta
  | _, _ => 0

/-- How a lane receives a grant whose lookup read this image (R69, R71, R72, R77). -/
def lookupReception (profileZero named : Profile) (lane : LaneId) (g : Grant) (slot : Nat) (image : Record) : Reception :=
  if (match g.tag with | none => false | some tag => image.tags.contains tag) = false then
    .orphan profileZero.trackWindow
  else if image.homeLane ≠ lane then .mismatch slot image.generation profileZero.trackWindow
  else
    let cls := classify image.pending g.start named.settle
    .station slot image.generation (centreShift image cls) (stationHalfWidth g.kind image.state named)
      (smoothingStart image cls)

/-- The lookup judges its burst an orphan or a mismatch, which raises ORPHAN_GRANT (R68, R69). -/
def Reception.misplaced : Reception → Bool
  | .orphan _ => true
  | .mismatch _ _ _ => true
  | _ => false

/-- LOOKUP_LATE: profile 0's acquisition window for ACQ, its track window otherwise (R70, R147). -/
def lateReception (profileZero : Profile) (g : Grant) (slot : Nat) : Reception :=
  .late slot (if g.kind = .acq then profileZero.acquisitionWindow else profileZero.trackWindow)

/-- The slot a held grant's outstanding lookup reads. -/
def Held.lookingFor (h : Held) : Option Nat :=
  match h.reception with
  | .looking slot => some slot
  | _ => none

/-- The held grant of this start gets its reception. -/
def Lane.receive (start : Time) (r : Reception) (l : Lane) : Lane :=
  { l with held := l.held.map fun h =>
      if h.grant.start = start ∧ h.lookingFor.isSome = true then { h with reception := r } else h }

/-- The held grant of this start whose lookup is outstanding. -/
def Lane.lookingAt (start : Time) (l : Lane) : Option Held :=
  l.held.find? fun h => decide (h.grant.start = start) && h.lookingFor.isSome

/-- A lookup's read has completed with an image: the lane judges it (R69). At a count already past G the window has
opened first, and R70 holds (log entry 20). -/
def State.completeLookup (lane : LaneId) (start : Time) (slot : Nat) (image : Record) (s : State) : State :=
  match (s.lane lane).lookingAt start with
  | none => s
  | some h =>
    let r :=
      if atOrAfter s.now start = true ∧ s.now ≠ start then lateReception (s.profile 0) h.grant slot
      else lookupReception (s.profile 0) (s.profile image.profile) lane h.grant slot image
    let s := s.setLane lane ((s.lane lane).receive start r)
    if r.misplaced then s.raise .orphanGrant else s

/-- A bank's access ends and the bank falls free: its arbiter chooses at once (R28, R30). -/
def State.freeBank (k : BankId) (s : State) : State :=
  State.arbitrate k (s.setBank k { s.bank k with access := .idle })

/-- LOOKUP_READ_COMPLETE (R36, R69): the bank's read in progress is a lookup's, and it completes. -/
def execLookupReadComplete (k : BankId) (s : State) : Result :=
  .next (match (s.bank k).access with
    | .read (some (.lookup lane start)) slot image _ => (s.freeBank k).completeLookup lane start slot image
    | _ => s)

/-- A held grant whose lookup is outstanding and whose start has come (R70). -/
def Held.windowOpens (now : Time) (h : Held) : Bool := h.lookingFor.isSome && atOrAfter now h.grant.start

/-- WINDOW_OPEN (R70): the lookup is abandoned, its read withdrawn, and the burst received as LOOKUP_LATE. -/
def execWindowOpen (lane : LaneId) (s : State) : Result :=
  .next (match (s.lane lane).held.find? (Held.windowOpens s.now) with
    | none => s
    | some h =>
      match h.lookingFor with
      | none => s
      | some slot =>
        State.withdrawReads (isLookupOf lane h.grant.start)
          (s.setLane lane ((s.lane lane).receive h.grant.start (lateReception (s.profile 0) h.grant slot))))

/-! ### The burst -/

/-- The search span of a held grant, in subticks from G × 32: lower and upper limit; none while the lookup is
outstanding, and for QUIET (R72, R73). -/
def Lane.spanOf (l : Lane) : Reception → Option (Int × Int)
  | .orphan h => some (-(h : Int), h)
  | .mismatch _ _ h => some (-(h : Int), h)
  | .late _ h => some (-(h : Int), h)
  | .station _ _ shift h _ => some (shift - h, shift + h)
  | .newcomer => some (0, l.settings.openWindow)
  | _ => none

/-- The completion time T: the grant's end plus the ticks by which the span's upper limit lies beyond G × 32, rounded up
(R73). -/
def Lane.completionTime (l : Lane) (g : Grant) (upper : Int) : Time := later (l.endOf g) (ticksCovering upper)

/-- The strongest peak; of two of equal strength, the earlier (R74). -/
def strongest : List Peak → Option Peak
  | [] => none
  | p :: rest =>
    match strongest rest with
    | none => some p
    | some b => if b.level < p.level ∨ (b.level = p.level ∧ p.offset ≤ b.offset) then some p else some b

/-- The peaks within a span (R74). -/
def peaksWithin (span : Int × Int) (peaks : List Peak) : List Peak :=
  peaks.filter fun p => within p.offset span.1 span.2

/-- A second peak: at least the strongest level minus 24 qdB, more than one symbol away (R76). -/
def secondPeak (symbol : Nat) (best : Peak) (peaks : List Peak) : Bool :=
  peaks.any fun p => decide (best.level - 24 ≤ p.level) && decide (symbol < (p.offset - best.offset).natAbs)

/-- What a lane makes of one burst's samples (R74 to R80). -/
structure Heard where
  outcome : BurstOutcome
  measured : Option Measurement
  trained : Option TapSet
  clipped : Bool
deriving DecidableEq, Repr

/-- The outcome of a burst that is not detected (R80). -/
def Reception.quietOutcome : Reception → BurstOutcome
  | .orphan _ => .orphan
  | .mismatch _ _ _ => .mismatch
  | .late _ _ => .lookupLate
  | _ => .missed

/-- The outcome of a detected burst that is no CLASH (R80). -/
def Reception.heardOutcome : Reception → BurstOutcome
  | .orphan _ => .orphan
  | .mismatch _ _ _ => .mismatch
  | .late _ _ => .lookupLate
  | _ => .clean

/-- The measurements of a detected burst, saturated (R74, R79). -/
def measure (best : Peak) (x : Samples) : Measurement :=
  { error := best.offset, power := clamp x.power (-128) 127, freq := clamp x.freq (-32767) 32767,
    mer := clamp x.mer 0 200 }

/-- Search, detection, clash check and measurement of one burst (R74 to R80; log entry 7). -/
def Lane.hear (l : Lane) (r : Reception) (span : Int × Int) (x : Samples) : Heard :=
  let peaks := peaksWithin span x.peaks
  match strongest peaks with
  | none => { outcome := r.quietOutcome, measured := none, trained := none, clipped := false }
  | some best =>
    if clamp x.power (-128) 127 - l.effectiveFloor < l.settings.margin then
      { outcome := r.quietOutcome, measured := none, trained := none, clipped := false }
    else if r = .newcomer ∧ secondPeak l.settings.rate.subticks best peaks = true then
      { outcome := .clash, measured := none, trained := none, clipped := false }
    else
      { outcome := r.heardOutcome, measured := some (measure best x), trained := some (saturateTaps x.trained),
        clipped := clampBites x.power (-128) 127 }

/-- The symbol-port unit of a burst that is done: the soft symbols follow the header of a detected burst of a grant
that is not OPEN (R81). -/
def Lane.unit (l : Lane) (lane : LaneId) (g : Grant) (h : Heard) (x : Samples) : SymbolUnit :=
  let count := if h.measured.isSome = true ∧ g.kind ≠ .opened then g.length - l.settings.preamble else 0
  { lane := lane, start := g.start, tag := g.tag, outcome := h.outcome, count := count, symbols := x.symbols.take count }

/-- The burst result (R82). -/
def burstResult (lane : LaneId) (h : Held) (x : Heard) : BurstResult :=
  { lane := lane, start := h.grant.start, kind := h.grant.kind, tag := h.grant.tag, slot := h.reception.slot,
    generation := h.reception.generation, outcome := x.outcome, measured := x.measured, trained := x.trained,
    clipped := x.clipped }

/-- A lane is done with the grant it is receiving; the next grant becomes the one being received (R54). -/
def Lane.done (l : Lane) : Lane := { l with held := l.held.tail }

/-- Offers a result to the lane's holder; at a full holder it is discarded with an UNPROCESSED report (R83). -/
def State.offerResult (lane : LaneId) (g : Grant) (r : BurstResult) (s : State) : State :=
  if (s.lane lane).holder.length < Config.resultHolder then
    s.setLane lane { s.lane lane with holder := (s.lane lane).holder ++ [r] }
  else (s.raise .resultUnprocessed).offer (laneBurstReport lane g r.slot r.generation .unprocessed)

/-- BURST_COMPLETE (R73 to R83): at or after T the grant being received is done; its unit is emitted and its result
offered. -/
def execBurstComplete (lane : LaneId) (x : Samples) (s : State) : Result :=
  .next (match (s.lane lane).held with
    | [] => s
    | h :: _ =>
      match (s.lane lane).spanOf h.reception with
      | none => s
      | some span =>
        if atOrAfter s.now ((s.lane lane).completionTime h.grant span.2) then
          let heard := (s.lane lane).hear h.reception span x
          State.offerResult lane h.grant (burstResult lane h heard)
            ((s.setLane lane (s.lane lane).done).emit ((s.lane lane).unit lane h.grant heard x))
        else s)

/-- SYMBOL_UNIT_EMITTED (R81): the port finishes its unit and begins the next one that waits. -/
def execSymbolUnitEmitted (s : State) : Result := .next { s with port := s.port.tail }

end Sys2Proof.Machine
end

