-- ==== Sys2Proof/Machine/Corrections.lean ====
section
/-! DEFINITION. Corrections in flight: DEADLINE_EXPIRE, WITHDRAWAL_START, CORRECTION_WITHDRAW and DELIVERED (R127 to
R132), with the withdrawal that MOVE shares (R20). -/

namespace Sys2Proof.Machine

/-- DEADLINE_EXPIRE (R128): the test of a slot's deadline entry; its expired mark is set when the elapsed time has
reached the delivery limit. -/
def execDeadlineExpire (slot : Nat) (s : State) : Result :=
  .next { s with deadlines := s.deadlines.map fun e => if e.slot = slot then e.test s.now else e }

/-- WITHDRAWAL_START (R129): the idle timer takes the marked entry nearest the head and goes for its slot's hold. -/
def execWithdrawalStart (s : State) : Result :=
  .next (match s.timer with
    | .idle =>
      match s.deadlines.find? (fun e => e.expired) with
      | none => s
      | some e => s.timerAcquires e.slot e
    | _ => s)

/-- The record after a withdrawal of a correction: totals reverted, the epoch remembered, nothing pending (R130). -/
def Record.withdrawn (c : Correction) (r : Record) : Record :=
  { r with
    timing := r.timing - c.timingDelta
    power := r.power - c.powerDelta
    freq := r.freq - c.freqDelta
    lastWithdrawn := some c.epoch
    pending := none }

/-- The WITHDRAWN report (R130). -/
def withdrawnReport (slot : Nat) (r : Record) (c : Correction) (gap : Bool) : Report :=
  .withdrawn { slot := slot, generation := r.generation, epoch := c.epoch, issueTime := c.issueTime, gap := gap }

/-- The entry of a correction leaves the deadline list if the correction is ISSUED (R18, R20, R127). -/
def leaveIfIssued (slot : Nat) (pending : Option Correction) : DeadlineChange :=
  match pending with
  | none => .keep
  | some c =>
    match c.state with
    | .issued => .leave slot
    | .delivered _ => .keep

/-- Two entries are of the same correction: slot, epoch and issue time (R129). -/
def DeadlineEntry.same (e x : DeadlineEntry) : Bool :=
  decide (x.slot = e.slot) && decide (x.epoch = e.epoch) && decide (x.issueTime = e.issueTime)

/-- The ISSUED correction of an entry, when the record holds it (R129 step 4; log entry 26). -/
def DeadlineEntry.correction (e : DeadlineEntry) (image : Record) : Option Correction :=
  match image.pending with
  | none => none
  | some c => if c.state = .issued ∧ c.epoch = e.epoch ∧ c.issueTime = e.issueTime then some c else none

/-- The correction that the timer finds to withdraw: its entry still in the list, its correction in the record
(R129). -/
def State.withdrawable (e : DeadlineEntry) (image : Record) (s : State) : Option Correction :=
  if s.deadlines.any e.same then e.correction image else none

/-- CORRECTION_WITHDRAW (R129, R130): with the record read, the timer reverts and clears the correction, reports and
posts; or releases the hold when its entry is gone. -/
def execCorrectionWithdraw (s : State) : Result :=
  .next (match s.timer with
    | .ready slot e image =>
      match s.withdrawable e image with
      | none => { s with timer := .idle }
      | some c =>
        let sg := State.offerHeld (withdrawnReport slot image c) (s.raise .correctionWithdrawn, GapTrack.start image)
        State.timerPosts e
          { slot := slot, image := { image.withdrawn c with gap := sg.2.flag }, deadline := .leave slot,
            released := none, taken := none } sg.1
    | _ => s)

/-- The answer to DELIVERED on a record, by the first row of R131 that holds; OK gives the correction to deliver. -/
def deliveredAnswer (now : Time) (epoch : Nat) (d : Time) (r : Record) : Status × Option Correction :=
  if r.state = .free then (.noStation, none)
  else
    match r.pending with
    | none => if (r.lastWithdrawn.map fun e => e.toNat) = some epoch then (.tooLate, none) else (.nonePending, none)
    | some c =>
      if c.epoch.toNat ≠ epoch then (.staleEpoch, none)
      else if c.state ≠ .issued then (.nonePending, none)
      else if before d c.issueTime ∨ (atOrAfter d now ∧ d ≠ now) then (.badArg, none)
      else (.ok, some c)

/-- DELIVERED (R131): taken from the queue, or carried out with the record in hand. -/
def execDelivered (s : State) : Result :=
  .next (match s.command with
    | .ready slot (.delivered n epoch d) image =>
      match deliveredAnswer s.now epoch d image with
      | (_, some c) =>
        State.commandPosts (.delivered n epoch d)
          { slot := slot, image := { image with pending := some { c with state := .delivered d } },
            deadline := .leave slot, released := none, taken := none } s
      | (status, none) => s.refuse status
    | _ =>
      match s.headRequest with
      | some (.delivered slot epoch d) =>
        if slotInRange slot ∧ epoch < 8 then s.takeRequest.commandAcquires slot (.delivered slot epoch d)
        else s.takeRequest.refuse .badArg
      | _ => s)

end Sys2Proof.Machine
end

