-- ==== Sys2Proof/Machine/Stations.lean ====
section
/-! DEFINITION. Station requests: ADMIT, RETIRE, MOVE, RECOVER, AMEND, FETCH, MAP_TAGS, UNMAP_TAGS, CLEAR_ALL and
CLEAR_ALL_SLOT (R14 to R27, R118).

A request that works on a record is carried out in steps (R16): its command first takes it from the head of the queue,
checks its fields and goes for the hold and the record; with the record in hand, the same command makes the remaining
checks, offers the reports and posts (log entry 6). -/

namespace Sys2Proof.Machine

/-- A request whose fields are in range goes for its slot's hold; one whose fields are not is refused BAD_ARG (R16
steps 1 and 2). -/
def State.beginRequest (sound : Bool) (slot : Nat) (request : Request) (s : State) : State :=
  if sound then s.takeRequest.commandAcquires slot request else s.takeRequest.refuse .badArg

/-- The STATE report of a request (R27). -/
def requestReport (slot : Nat) (old new : StationState) (reason : StateReason) (gap : Bool) : Report :=
  .state { slot := some slot, old := some old, new := new, reason := reason, gap := gap }

/-- Offers a request's STATE report under the hold and posts its image with the gap flag it leaves (R16, R171). -/
def State.reportAndPost (work : Request) (slot : Nat) (old new : StationState) (reason : StateReason) (image : Record)
    (deadline : DeadlineChange) (released taken : Option ProfileId) (sg : State × GapTrack) : State :=
  let sg := State.offerHeld (requestReport slot old new reason) sg
  State.commandPosts work
    { slot := slot, image := { image with gap := sg.2.flag }, deadline := deadline, released := released, taken := taken }
    sg.1

/-- Acquisition starts afresh under a budget (R3, R8). -/
def Record.acquiring (budget : Nat) (r : Record) : Record :=
  { r with state := .acquire, budget := budget, alignedCount := 0, missCount := 0 }

/-- The record ADMIT makes (R17); generation, next epoch and gap flag stay. -/
def Record.admitted (lane : LaneId) (profile : ProfileId) (timing power freq : Int) (budget : Nat) (r : Record) : Record :=
  Record.acquiring budget
    { r with homeLane := lane, profile := profile, timing := timing, power := power, freq := freq, taps := identityTaps,
             quality := none, last := none, pending := none, lastWithdrawn := none, tags := [] }

/-- The fields of ADMIT lie within their ranges (R17). -/
def admitSound (slot lane profile : Nat) (timing power freq : Int) : Bool :=
  slotInRange slot && (laneOf lane).isSome && (profileOf profile).isSome && within timing 0 2097151 &&
  within power (-128) 127 && within freq (-20000) 20000

/-- ADMIT (R17). -/
def execAdmit (s : State) : Result :=
  .next (match s.command with
    | .ready slot (.admitStation n lane profile a w f) image =>
      match laneOf lane, profileOf profile with
      | some l, some p =>
        if image.state ≠ .free then s.refuse .inUse
        else if within w (s.profile p).powerFloor (s.profile p).powerCeiling = false then s.refuse .outOfBounds
        else
          State.reportAndPost (.admitStation n lane profile a w f) slot .free .acquire .admitted
            (image.admitted l p a w f (s.profile p).budget) .keep none (some p) (s, GapTrack.start image)
      | _, _ => s.refuse .badArg
    | _ =>
      match s.headRequest with
      | some (.admitStation slot lane profile a w f) =>
        s.beginRequest (admitSound slot lane profile a w f) slot (.admitStation slot lane profile a w f)
      | _ => s)

/-- The record RETIRE and the CLEAR_ALL walk make (R18, R24). -/
def Record.retired (r : Record) : Record :=
  { r with state := .free, generation := r.generation + 1, tags := [], pending := none, lastWithdrawn := none }

/-- RETIRE (R18). -/
def execRetire (s : State) : Result :=
  .next (match s.command with
    | .ready slot (.retire n) image =>
      if image.state = .free then s.refuse .noStation
      else
        State.reportAndPost (.retire n) slot image.state .free .retired image.retired (leaveIfIssued slot image.pending)
          (some image.profile) none (s, GapTrack.start image)
    | _ =>
      match s.headRequest with
      | some (.retire slot) => s.beginRequest (slotInRange slot) slot (.retire slot)
      | _ => s)

/-- The record after the withdrawal that MOVE makes of any pending correction (R20). -/
def Record.moveWithdrawn (r : Record) : Record :=
  match r.pending with
  | none => r
  | some c => r.withdrawn c

/-- The record MOVE makes (R19). -/
def Record.moved (lane : LaneId) (budget : Nat) (r : Record) : Record :=
  Record.acquiring budget
    { r.moveWithdrawn with homeLane := lane, taps := identityTaps, quality := none, last := none,
                           generation := r.generation + 1 }

/-- The report and the alert cause of MOVE's withdrawal, if a correction is pending (R20; log entry 15). -/
def State.offerMoveWithdrawn (slot : Nat) (image : Record) (s : State) : State × GapTrack :=
  match image.pending with
  | none => (s, GapTrack.start image)
  | some c => State.offerHeld (withdrawnReport slot image c) (s.raise .correctionWithdrawn, GapTrack.start image)

/-- MOVE (R19, R20). -/
def execMove (s : State) : Result :=
  .next (match s.command with
    | .ready slot (.move n lane) image =>
      match laneOf lane with
      | none => s.refuse .badArg
      | some l =>
        if image.state = .free then s.refuse .noStation
        else
          State.reportAndPost (.move n lane) slot image.state .acquire .moved
            (image.moved l (s.profile image.profile).budget) (leaveIfIssued slot image.pending) none none
            (s.offerMoveWithdrawn slot image)
    | _ =>
      match s.headRequest with
      | some (.move slot lane) => s.beginRequest (slotInRange slot && (laneOf lane).isSome) slot (.move slot lane)
      | _ => s)

/-- RECOVER (R21). -/
def execRecover (s : State) : Result :=
  .next (match s.command with
    | .ready slot (.recover n) image =>
      if image.state = .free then s.refuse .noStation
      else if image.state ≠ .lost then s.refuse .badState
      else
        State.reportAndPost (.recover n) slot .lost .acquire .recovered
          { image.acquiring (s.profile image.profile).budget with generation := image.generation + 1 } .keep none none
          (s, GapTrack.start image)
    | _ =>
      match s.headRequest with
      | some (.recover slot) => s.beginRequest (slotInRange slot) slot (.recover slot)
      | _ => s)

/-- The power total that a withdrawal would restore: W less any pending power delta (R22). -/
def Record.withdrawnPower (r : Record) : Int :=
  match r.pending with
  | none => r.power
  | some c => r.power - c.powerDelta

/-- The record AMEND makes: the profile, and in TRACK a miss count brought below the new silence limit (R22, R118). -/
def Record.amended (p : ProfileId) (limit : Nat) (r : Record) : Record :=
  { r with
    profile := p
    missCount := if r.state = .track ∧ limit ≤ r.missCount then limit - 1 else r.missCount }

/-- AMEND (R22, R118). -/
def execAmend (s : State) : Result :=
  .next (match s.command with
    | .ready slot (.amend n profile) image =>
      match profileOf profile with
      | none => s.refuse .badArg
      | some p =>
        if image.state = .free then s.refuse .noStation
        else if (within image.power (s.profile p).powerFloor (s.profile p).powerCeiling &&
            within image.withdrawnPower (s.profile p).powerFloor (s.profile p).powerCeiling) = false then
          s.refuse .outOfBounds
        else
          State.commandPosts (.amend n profile)
            { slot := slot, image := image.amended p (s.profile p).silenceLimit, deadline := .keep,
              released := some image.profile, taken := some p } s
    | _ =>
      match s.headRequest with
      | some (.amend slot profile) =>
        s.beginRequest (slotInRange slot && (profileOf profile).isSome) slot (.amend slot profile)
      | _ => s)

/-- FETCH (R23): no hold; the reply shows the record as read. -/
def execFetch (s : State) : Result :=
  .next (match s.command with
    | .ready slot (.fetch _ view) image =>
      match viewOf view with
      | none => s.refuse .badArg
      | some v =>
        if image.state = .free then s.refuse .noStation else s.answer .ok (.record (viewRecord v slot image))
    | _ =>
      match s.headRequest with
      | some (.fetch slot view) =>
        if slotInRange slot && (viewOf view).isSome then s.takeRequest.commandReads slot (.fetch slot view)
        else s.takeRequest.refuse .badArg
      | _ => s)

/-! ### Tags -/

/-- The block of count consecutive tags from the base (R14). -/
def tagBlock (base count : Nat) : List Nat := (List.range count).map fun i => base + i

/-- A tag joins a rising list in its place. -/
def insertTag (t : Nat) : List Nat → List Nat
  | [] => [t]
  | x :: rest => if t < x then t :: x :: rest else if t = x then x :: rest else x :: insertTag t rest

/-- A list's tags with a block merged in, rising (R14). -/
def mergeTags (block tags : List Nat) : List Nat := block.foldl (fun ts t => insertTag t ts) tags

/-- Check 1 of R14. -/
def mapTagsSound (slot base count : Nat) : Bool :=
  slotInRange slot && decide (base < Config.tags) &&
  (decide (count = 1) || decide (count = 2) || decide (count = 4) || decide (count = 8))

/-- Checks 2 to 5 of R14, in order, with the record read (log entry 19): the first refusal. -/
def mapTagsRefusal (map : List (Nat × Nat)) (image : Record) (base count : Nat) : Option Status :=
  if base % count ≠ 0 then some .misaligned
  else if image.state = .free then some .noStation
  else if (tagBlock base count).any fun t => (tagFind map t).isSome then some .tagTaken
  else if Config.tagsPerStation < image.tags.length + count then some .tagLimit
  else none

/-- MAP_TAGS (R14): the whole block, or none of it. -/
def execMapTags (s : State) : Result :=
  .next (match s.command with
    | .ready slot (.mapTags n base count) image =>
      match mapTagsRefusal s.tagMap image base count with
      | some status => s.refuse status
      | none =>
        State.commandPosts (.mapTags n base count)
          { slot := slot, image := { image with tags := mergeTags (tagBlock base count) image.tags }, deadline := .keep,
            released := none, taken := none } s
    | _ =>
      match s.headRequest with
      | some (.mapTags slot base count) => s.beginRequest (mapTagsSound slot base count) slot (.mapTags slot base count)
      | _ => s)

/-- The fields of UNMAP_TAGS: 1 to 8 tags within 0..16383, none twice (R15, R175). -/
def unmapTagsSound (slot number : Nat) (fields : List Nat) : Bool :=
  slotInRange slot && decide (1 ≤ number) && decide (number ≤ 8) &&
  (fields.take number).all (fun t => decide (t < Config.tags)) && decide ((fields.take number).Nodup)

/-- UNMAP_TAGS (R15): every named tag, or none. -/
def execUnmapTags (s : State) : Result :=
  .next (match s.command with
    | .ready slot (.unmapTags n number fields) image =>
      if image.state = .free then s.refuse .noStation
      else if (fields.take number).all (fun t => decide (tagFind s.tagMap t = some slot)) = false then
        s.refuse .notMapped
      else
        State.commandPosts (.unmapTags n number fields)
          { slot := slot, image := { image with tags := image.tags.filter fun t => !(fields.take number).contains t },
            deadline := .keep, released := none, taken := none } s
    | _ =>
      match s.headRequest with
      | some (.unmapTags slot number fields) =>
        s.beginRequest (unmapTagsSound slot number fields) slot (.unmapTags slot number fields)
      | _ => s)

/-! ### CLEAR_ALL -/

/-- CLEAR_ALL (R24): the command engine takes the request and stands before slot 0. -/
def execClearAll (s : State) : Result :=
  .next (match s.headRequest with
    | some .clearAll => { s.takeRequest with command := .atSlot 0 .clearAll }
    | _ => s)

/-- CLEAR_ALL_SLOT (R24, R25): before a slot the walk goes for its hold and record; with the record in hand it passes
a FREE slot by, or retires a live one without a STATE report (log entry 28). -/
def execClearAllSlot (s : State) : Result :=
  .next (match s.command with
    | .atSlot slot .clearAll => s.commandAcquires slot .clearAll
    | .ready slot .clearAll image =>
      if image.state = .free then s.walkOn slot
      else
        State.commandPosts .clearAll
          { slot := slot, image := image.retired, deadline := leaveIfIssued slot image.pending,
            released := some image.profile, taken := none } s
    | _ => s)

end Sys2Proof.Machine
end

