-- ==== Sys2Proof/Machine/Sweep.lean ====
section
/-! DEFINITION. Record sweeps: SWEEP, SWEEP_STOP, SWEEP_STATUS, SWEEP_READ_COMPLETE, SWEEP_FRAME_OFFER, SWEEP_END and
SWEEP_DEADLINE_EXPIRE (R176 to R182). -/

namespace Sys2Proof.Machine

/-- Replaces the sweep's descriptor and progress. -/
def State.setRun (r : SweepRun) (s : State) : State := { s with sweep := { s.sweep with run := some r } }

/-- How many records a full frame holds: 8 SUMMARY or 4 FULL (R178). -/
def View.frameSize : View → Nat
  | .summary => 8
  | .full => 4

/-- The open frame is full (R178). -/
def SweepRun.frameFull (r : SweepRun) : Bool := decide (r.view.frameSize ≤ r.frame.length)

/-- The scan is finished: the last slot of the range has been read (R179). -/
def SweepRun.scanned (r : SweepRun) : Bool := decide (r.last < r.next)

/-- The open frame is to be offered: it is full, or it is the final part-frame (R178, R179). -/
def SweepRun.frameReady (r : SweepRun) : Bool := r.frameFull || (r.scanned && !r.frame.isEmpty)

/-- The bit of a state in a state set (R175). -/
def StationState.bit : StationState → Nat
  | .free => 0
  | .acquire => 1
  | .track => 2
  | .lost => 3

/-- A record read is emitted: not FREE, and in the three sets (R177). -/
def SweepRun.emits (r : SweepRun) (image : Record) : Bool :=
  decide (image.state ≠ .free) && r.states.getLsbD image.state.bit && r.lanes.getLsbD image.homeLane.val &&
  r.profiles.getLsbD image.profile.val

/-- The progress after a slot has been read (R177). -/
def SweepRun.afterRead (slot : Nat) (image : Record) (granted : Time) (r : SweepRun) : SweepRun :=
  { r with
    next := r.next + 1
    frame := if r.emits image then r.frame ++ [{ view := viewRecord r.view slot image, readTime := granted }] else r.frame }

/-- The slot after the last record of a frame, for the resume point (R178). -/
def slotAfter (frame : List SweepRecord) (otherwise : Nat) : Nat :=
  match frame.getLast? with
  | none => otherwise
  | some x => x.view.summary.slot + 1

/-- The report queue has 16 free entries (R178). -/
def State.sweepRoom (s : State) : Bool := decide (s.reports.length ≤ Config.sweepRoom)

/-- The progress after its frame has entered the report queue (R178). -/
def SweepRun.afterFrame (r : SweepRun) : SweepRun :=
  { r with framesSent := r.framesSent + 1, emitted := r.emitted + r.frame.length, resume := slotAfter r.frame r.resume,
           frame := [] }

/-- The sweep's scan and frames are done: DONE, and the phase becomes ENDING (R179). -/
def State.sweepFinishes (r : SweepRun) (s : State) : State :=
  { s with sweep := { phase := .ending, result := .done, run := some { r with resume := r.last + 1, applies := false } } }

/-- The sweep reads its next slot, or is finished when none is left (R177, R179). -/
def State.sweepReads (r : SweepRun) (s : State) : State :=
  if r.scanned then s.sweepFinishes r else State.requestRead .sweep r.next (s.setRun r)

/-- The open frame is offered as a SWEEP_RECORDS report; room was judged (R178). -/
def State.offerFrame (r : SweepRun) (s : State) : State :=
  State.sweepReads r.afterFrame (s.offer (.sweepRecords { frame := r.framesSent, view := r.view, records := r.frame }))

/-- What a running sweep does next: a ready frame is offered, or waits for room; otherwise the reads go on (R177,
R178). -/
def State.sweepProceeds (r : SweepRun) (s : State) : State :=
  if r.frameReady then (if s.sweepRoom then s.offerFrame r else s.setRun r) else s.sweepReads r

/-- A sweep read has completed (R177). -/
def State.completeSweepRead (slot : Nat) (image : Record) (granted : Time) (s : State) : State :=
  match s.sweep.phase, s.sweep.run with
  | .running, some r => if slot = r.next then s.sweepProceeds (r.afterRead slot image granted) else s
  | _, _ => s

/-- The slot of the sweep's next read. -/
def SweepEngine.nextSlot (e : SweepEngine) : Nat :=
  match e.run with
  | none => 0
  | some r => r.next

/-- SWEEP_READ_COMPLETE (R177): the sweep's read completes; the record is emitted or passed over. -/
def execSweepReadComplete (s : State) : Result :=
  .next (match (s.bank (bankOf s.sweep.nextSlot)).access with
    | .read (some .sweep) slot image granted =>
      (s.freeBank (bankOf s.sweep.nextSlot)).completeSweepRead slot image granted
    | _ => s)

/-- SWEEP_FRAME_OFFER (R178): a frame that waits for room finds 16 free entries. -/
def execSweepFrameOffer (s : State) : Result :=
  .next (match s.sweep.phase, s.sweep.run with
    | .running, some r => if r.frameReady && s.sweepRoom then s.offerFrame r else s
    | _, _ => s)

/-- The SWEEP_END report (R179). -/
def sweepEndReport (result : SweepResult) (r : SweepRun) : SweepEndReport :=
  { status := result, emitted := r.emitted, framesSent := r.framesSent, nextSlot := r.resume }

/-- SWEEP_END (R179): in ENDING, with a free entry, SWEEP_END is offered, SWEEP_ENDED raised, and the engine idle. -/
def execSweepEnd (s : State) : Result :=
  .next (match s.sweep.phase, s.sweep.run with
    | .ending, some r =>
      if s.reportRoom then
        (State.offer (.sweepEnd (sweepEndReport s.sweep.result r))
          { s with sweep := { s.sweep with phase := .idle } }).raise .sweepEnded
      else s
    | _, _ => s)

/-- Where a stopped sweep resumes: at the first record of the discarded frame, or at the next slot to read (R180). -/
def SweepRun.resumePoint (r : SweepRun) : Nat :=
  match r.frame with
  | [] => r.next
  | x :: _ => x.view.summary.slot

/-- The requester is the sweep engine. -/
def isSweep (who : Requester) : Bool := decide (who = .sweep)

/-- The sweep stops wherever it stands: its read is withdrawn, its open frame discarded (R42, R180, R181). -/
def State.sweepStops (result : SweepResult) (r : SweepRun) (s : State) : State :=
  State.withdrawReads isSweep
    { s with sweep := { phase := .ending, result := result,
                        run := some { r with resume := r.resumePoint, frame := [], applies := false } } }

/-- The deadline's test (R180). -/
def SweepRun.expires (now : Time) (r : SweepRun) : Bool :=
  r.applies && !r.heldOff && decide (r.deadline ≤ elapsed now r.start)

/-- SWEEP_DEADLINE_EXPIRE (R180): the sweep ends TIMEOUT. -/
def execSweepDeadlineExpire (s : State) : Result :=
  .next (match s.sweep.phase, s.sweep.run with
    | .running, some r => if r.expires s.now then s.sweepStops .timeout r else s
    | _, _ => s)

/-- The descriptor a SWEEP request gives when its fields are in range (R176); none for BAD_ARG. -/
def sweepRunOf (now : Time) (first count states lanes profiles view deadline : Nat) : Option SweepRun :=
  match viewOf view with
  | none => none
  | some v =>
    if first < Config.slots ∧ 1 ≤ count ∧ count ≤ 1024 ∧ states % 2 = 0 ∧ states % 16 ≠ 0 ∧ 0 < lanes ∧ lanes < 16 ∧
        0 < profiles ∧ profiles < 256 ∧ 1 ≤ deadline ∧ deadline ≤ 1000 then
      some { first := first, last := min (first + count - 1) 1023, states := BitVec.ofNat 4 states,
             lanes := BitVec.ofNat 4 lanes, profiles := BitVec.ofNat 8 profiles, view := v, start := now,
             deadline := deadline * ticksPerMs, next := first, frame := [], framesSent := 0, emitted := 0,
             resume := first, applies := true, heldOff := false }
    else none

/-- SWEEP (R176): BAD_ARG, BUSY, UNSYNC, or the sweep is accepted, RUNNING, and asks for its first read. -/
def execSweep (s : State) : Result :=
  .next (match s.headRequest with
    | some (.sweep first count states lanes profiles view deadline) =>
      let s := s.takeRequest
      match sweepRunOf s.now first count states lanes profiles view deadline with
      | none => s.refuse .badArg
      | some r =>
        if s.sweep.phase ≠ .idle then s.refuse .busy
        else if s.clock.synchronised = false then s.refuse .unsync
        else
          (State.sweepReads r { s with sweep := { phase := .running, result := .none, run := some r } }).answer .ok .empty
    | _ => s)

/-- SWEEP_STOP (R181): a RUNNING sweep ends STOPPED. -/
def execSweepStop (s : State) : Result :=
  .next (match s.headRequest with
    | some .sweepStop =>
      match s.sweep.phase, s.sweep.run with
      | .running, some r => (State.sweepStops .stopped r s.takeRequest).answer .ok .empty
      | _, _ => s.takeRequest.refuse .badState
    | _ => s)

/-- The sweep engine as SWEEP_STATUS shows it (R182). -/
def sweepStatusOf (e : SweepEngine) : SweepStatus :=
  match e.run with
  | none => { phase := e.phase, result := e.result, remaining := 0, framesSent := 0, emitted := 0, nextSlot := none }
  | some r =>
    { phase := e.phase
      result := e.result
      remaining := if e.phase = .running then r.last + 1 - r.next else 0
      framesSent := r.framesSent
      emitted := r.emitted
      nextSlot := if e.phase = .idle then some r.resume else none }

/-- SWEEP_STATUS (R182). -/
def execSweepStatus (s : State) : Result :=
  .next (match s.headRequest with
    | some .sweepStatus => s.takeRequest.answer .ok (.sweep (sweepStatusOf s.sweep))
    | _ => s)

end Sys2Proof.Machine
end

