-- ==== Sys2Proof/Machine/Store.lean ====
section
/-! DEFINITION. The station table store: BANK_READ_COMPLETE, DRAIN, POST_TAKES_ENTRY and HOLD_TAKEN (R28 to R42). -/

namespace Sys2Proof.Machine

/-- The update engine receives the record it asked for (R36, R39). -/
def State.updateReceives (slot : Nat) (image : Record) (s : State) : State :=
  match s.update with
  | .reading at_ r => if at_ = slot then { s with update := .ready slot r image } else s
  | _ => s

/-- The command engine receives the record it asked for (R16, R36). -/
def State.commandReceives (slot : Nat) (image : Record) (s : State) : State :=
  match s.command with
  | .reading at_ r => if at_ = slot then { s with command := .ready slot r image } else s
  | _ => s

/-- The correction timer receives the record it asked for (R36, R129). -/
def State.timerReceives (slot : Nat) (image : Record) (s : State) : State :=
  match s.timer with
  | .reading at_ e => if at_ = slot then { s with timer := .ready slot e image } else s
  | _ => s

/-- A completed read's record goes to its requester; a withdrawn read's is discarded (R32, R36). -/
def State.deliver (who : Option Requester) (slot : Nat) (image : Record) (granted : Time) (s : State) : State :=
  match who with
  | none => s
  | some (.lookup lane start) => s.completeLookup lane start slot image
  | some .update => s.updateReceives slot image
  | some .command => s.commandReceives slot image
  | some .timer => s.timerReceives slot image
  | some .sweep => s.completeSweepRead slot image granted

/-- BANK_READ_COMPLETE (R28, R36): the read in progress completes, the bank's arbiter chooses again, and the requester
goes on with its work (log entry 23). -/
def execBankReadComplete (k : BankId) (s : State) : Result :=
  .next (match (s.bank k).access with
    | .read who slot image granted => (s.freeBank k).deliver who slot image granted
    | _ => s)

/-- The bank after its drain: the oldest entry stands in the array and has left the queue (R35). -/
def Bank.drained (b : Bank) : Bank :=
  match b.queue with
  | [] => b
  | p :: rest => { b with array := tableWrite p.slot p.image b.array, queue := rest }

/-- DRAIN (R35): the drain in progress completes. -/
def execDrain (k : BankId) (s : State) : Result :=
  .next (match (s.bank k).access with
    | .drain => (s.setBank k (s.bank k).drained).freeBank k
    | _ => s)

/-- The writer's post, when it waits for room in this bank (R34). -/
def Phase.waitingPost {ω : Type} (k : BankId) : Phase ω → Option (ω × Post)
  | .posting work post => if bankOf post.slot = k then some (work, post) else none
  | _ => none

/-- POST_TAKES_ENTRY (R34): a freed entry goes to one waiting post, in the order update engine, command engine,
correction timer; the writer's hold is released. A post that came between the drain and this step waits with the others
and takes its part in the order, so one of an earlier writer goes before an older post (log entry 12). -/
def execPostTakesEntry (k : BankId) (s : State) : Result :=
  .next (if (s.bank k).hasEntry then
      match s.update.waitingPost k with
      | some (_, post) => State.applyPost post { s with update := .idle }
      | none =>
        match s.command.waitingPost k with
        | some (work, post) => State.commandPosted work post.slot (State.applyPost post { s with command := .idle })
        | none =>
          match s.timer.waitingPost k with
          | some (_, post) => State.applyPost post { s with timer := .idle }
          | none => s
    else s)

/-- The work of a writer that waits for a slot's hold (R40). -/
def Phase.waitingWork {ω : Type} (slot : Nat) : Phase ω → Option ω
  | .waiting at_ work => if at_ = slot then some work else none
  | _ => none

/-- HOLD_TAKEN (R40): a released hold goes to a waiting writer, in the order command engine, update engine, correction
timer, which asks for its read. -/
def execHoldTaken (slot : Nat) (s : State) : Result :=
  .next (if s.holder slot = none then
      match s.command.waitingWork slot with
      | some work => s.commandReads slot work
      | none =>
        match s.update.waitingWork slot with
        | some r => s.updateReads slot r
        | none =>
          match s.timer.waitingWork slot with
          | some e => s.timerReads slot e
          | none => s
    else s)

end Sys2Proof.Machine
end

