-- ==== Sys2Proof/Machine/Counting.lean ====
section
/-! DEFINITION. Acquisition, tracking and silence: the counting of one result, as a function of the record, the profile
and the lane's STORM state (spec/06). -/

namespace Sys2Proof.Machine

/-- What the counting leaves: counts, state, and the reason of a change of state (R110, R122). -/
structure Counted where
  state : StationState
  missCount : Nat
  alignedCount : Nat
  budget : Nat
  reason : Option StateReason
deriving DecidableEq, Repr

/-- Nothing counted. -/
def Counted.same (r : Record) : Counted :=
  { state := r.state, missCount := r.missCount, alignedCount := r.alignedCount, budget := r.budget, reason := none }

/-- A CLEAN result is aligned: e within the lock timing window, P within the lock power window of the target
(R112). -/
def aligned (p : Profile) (m : Measurement) : Bool :=
  decide (m.error.natAbs ≤ p.lockTiming) && decide ((m.power - p.target).natAbs ≤ p.lockPower)

/-- The end condition, after budget and aligned count have been updated (R113). -/
def acquisitionEnd (p : Profile) (alignedCount budget : Nat) : Option StateReason :=
  match p.endCondition with
  | .either =>
    if p.lockBursts ≤ alignedCount then some .locked else if budget = 0 then some .exhausted else none
  | .budget =>
    if budget = 0 then (if p.lockBursts ≤ alignedCount then some .locked else some .exhausted) else none

/-- The counting in ACQUIRE (R111 to R115, R119). `measured` is absent for a MISSED result. -/
def countAcquire (p : Profile) (r : Record) (storm : Bool) (measured : Option Measurement) : Counted :=
  if storm = true ∧ measured = none then Counted.same r
  else
    let hit := match measured with | none => false | some m => aligned p m
    let alignedCount := if hit then min 7 (r.alignedCount + 1) else 0
    let budget := r.budget - 1
    match acquisitionEnd p alignedCount budget with
    | some .locked =>
      { state := .track, missCount := 0, alignedCount := alignedCount, budget := budget, reason := some .locked }
    | some reason =>
      { state := .lost, missCount := r.missCount, alignedCount := alignedCount, budget := budget, reason := some reason }
    | none =>
      { state := .acquire, missCount := r.missCount, alignedCount := alignedCount, budget := budget, reason := none }

/-- A result counts as silence in TRACK: a MISSED one, or in MISSED_OR_POOR a CLEAN one of quality 0 (R116). -/
def silent (p : Profile) (quality : Option Nat) : Bool :=
  match quality with
  | none => true
  | some q => decide (p.silenceMode = .missedOrPoor) && decide (q = 0)

/-- The counting in TRACK (R115 to R117). `quality` is absent for a MISSED result. -/
def countTrack (p : Profile) (r : Record) (storm : Bool) (quality : Option Nat) : Counted :=
  if silent p quality then
    if storm then Counted.same r
    else if p.silenceLimit ≤ r.missCount + 1 then
      { Counted.same r with state := .lost, missCount := 0, reason := some .silent }
    else { Counted.same r with missCount := r.missCount + 1 }
  else { Counted.same r with missCount := 0 }

/-- The counting in LOST: a CLEAN result of quality 2 or more rejoins (R120, R121). -/
def countLost (p : Profile) (r : Record) (quality : Option Nat) : Counted :=
  match quality with
  | none => Counted.same r
  | some q =>
    if 2 ≤ q then { state := .acquire, missCount := 0, alignedCount := 0, budget := p.budget, reason := some .rejoined }
    else Counted.same r

/-- The counting of the state as read (R110). -/
def count (p : Profile) (r : Record) (storm : Bool) (measured : Option Measurement) : Counted :=
  match r.state with
  | .acquire => countAcquire p r storm measured
  | .track => countTrack p r storm (measured.map fun m => qualityOf m.mer)
  | .lost => countLost p r (measured.map fun m => qualityOf m.mer)
  | .free => Counted.same r

/-- The record with the counts and the state of the counting. -/
def Record.counted (r : Record) (c : Counted) : Record :=
  { r with state := c.state, missCount := c.missCount, alignedCount := c.alignedCount, budget := c.budget }

end Sys2Proof.Machine
end

