-- ==== Sys2Proof/Machine/Update.lean ====
section
/-! DEFINITION. The update engine: UPDATE_TAKE_RESULT and UPDATE_PROCESS (R84, R85, R87 to R108, R124, R135, R136). -/

namespace Sys2Proof.Machine

/-! ### Taking a result -/

/-- Result x is taken before result y when it starts earlier, modulo 2^32 (R84). -/
def BurstResult.earlier (x y : BurstResult) : Bool := decide (x.start ≠ y.start) && atOrAfter y.start x.start

/-- The heads of the four result holders, by lane (R84). -/
def State.heads (s : State) : List (LaneId × BurstResult) :=
  [0, 1, 2, 3].filterMap fun l => (s.lane l).holder.head?.map fun r => (l, r)

/-- The head with the earliest G, the lowest lane among equals (R84). DESIGN CHOICE: of heads whose starts have no earliest
one modulo 2^32, the one that this fold from the highest lane down leaves; of two exactly 2^31 apart, the lower lane's (log
entry 35). -/
def earliestHead : List (LaneId × BurstResult) → Option (LaneId × BurstResult)
  | [] => none
  | x :: rest =>
    match earliestHead rest with
    | none => some x
    | some b => if b.2.earlier x.2 then some b else some x

/-- The BURST report of a result, without limit flags, PRE or GAP (R85, R88, R106). -/
def BurstResult.report (outcome : BurstOutcome) (r : BurstResult) : BurstReport :=
  { lane := r.lane, start := r.start, kind := r.kind, tag := r.tag, slot := r.slot, generation := r.generation,
    outcome := outcome, measured := r.measured, quality := r.measured.map fun m => qualityOf m.mer,
    timingLimit := false, powerLimit := false, clipped := r.clipped, pre := false, gap := false }

/-- A result that concerns no record the engine may change, finished with its report and without a hold (R85). -/
def State.reportUnheld (r : BurstResult) (s : State) : State :=
  if r.kind = .opened then
    match r.outcome, r.measured with
    | .clean, some m => (s.raise .newcomerSeen).offer (.newcomer { lane := r.lane, start := r.start, measured := m })
    | .clash, _ => s.offer (.burst (r.report .clash))
    | _, _ => s
  else s.offer (.burst (r.report r.outcome))

/-- The result is processed under the hold of its slot: CLEAN or MISSED, of kind ACQ, MAINT or DATA (R84, R87). -/
def BurstResult.heldSlot (r : BurstResult) : Option Nat :=
  if r.kind ≠ .opened ∧ (r.outcome = .clean ∨ r.outcome = .missed) then r.slot else none

/-- UPDATE_TAKE_RESULT (R84, R85): the free engine takes a head, and goes for its slot's hold or reports it at once. -/
def execUpdateTakeResult (s : State) : Result :=
  .next (match s.update with
    | .idle =>
      match earliestHead s.heads with
      | none => s
      | some (l, r) =>
        let s := s.setLane l { s.lane l with holder := (s.lane l).holder.tail }
        match r.heldSlot with
        | some slot => s.updateAcquires slot r
        | none => s.reportUnheld r
    | _ => s)

/-! ### Processing under the hold -/

/-- The result is STALE against the image read under the hold (R88). -/
def BurstResult.stale (r : BurstResult) (image : Record) : Bool :=
  decide (image.state = .free) || decide (r.generation ≠ some image.generation)

/-- The ABSORBED report (R136). -/
def absorbedReport (slot : Nat) (image : Record) (c : Correction) (start : Time) (gap : Bool) : Report :=
  .absorbed { slot := slot, generation := image.generation, epoch := c.epoch, start := start,
              tapReset := c.taps.isSome, gap := gap }

/-- Offers the ABSORBED report when the burst absorbs (R135, R136). -/
def State.offerAbsorbed (slot : Nat) (image : Record) (cls : BurstClass) (start : Time) (sg : State × GapTrack) :
    State × GapTrack :=
  match cls, image.pending with
  | .post, some c => State.offerHeld (absorbedReport slot image c start) sg
  | _, _ => sg

/-- The correction that an issue creates (R124). -/
def correctionOf (now : Time) (image : Record) (w : Worked) : Correction :=
  { epoch := image.nextEpoch, state := .issued, issueTime := now, timingDelta := w.timing.delta,
    powerDelta := w.power.delta, freqDelta := w.freq.delta, taps := if w.sendTaps then some w.taps else none }

/-- The CORRECTION report (R125): the lowest tag is the first of the list. -/
def correctionReport (slot : Nat) (image : Record) (c : Correction) (gap : Bool) : Report :=
  .correction { slot := slot, generation := image.generation, epoch := c.epoch, issueTime := c.issueTime,
                tag := image.tags.head?, timingDelta := c.timingDelta, powerDelta := c.powerDelta,
                freqDelta := c.freqDelta, taps := c.taps, gap := gap }

/-- The issue of a called-for correction: its report enters the queue, or it is not issued, REPORT_DROPPED is raised
and the gap flag set (R103, R124). -/
def State.offerCorrection (slot : Nat) (image : Record) (w : Worked) (calls : Bool) (sg : State × GapTrack) :
    (State × GapTrack) × Option Correction :=
  if calls then
    let c := correctionOf sg.1.now image w
    if sg.1.reportRoom then (State.offerHeld (correctionReport slot image c) sg, some c)
    else ((sg.1.raise .reportDropped, { sg.2 with flag := true }), none)
  else (sg, none)

/-- The record of a CLEAN result before issue and counting: absorption, quality, last measurement and taps (R90, R92,
R98, R135). -/
def Record.measured (r : Record) (cls : BurstClass) (w : Worked) (m : Measurement) (start : Time) : Record :=
  { r with
    pending := if cls = .post then none else r.pending
    quality := some w.quality
    last := some { values := m, start := start }
    taps := w.taps }

/-- The record with an issued correction: new totals, the correction pending, the next epoch advanced (R124). -/
def Record.issued (r : Record) (w : Worked) (c : Correction) : Record :=
  { r with timing := w.timing.value, power := w.power.value, freq := w.freq.value, pending := some c,
           nextEpoch := r.nextEpoch + 1 }

/-- The record with whatever was issued. -/
def Record.withIssue (r : Record) (w : Worked) : Option Correction → Record
  | none => r
  | some c => r.issued w c

/-- The deadline entry of an issued correction (R124, R127). -/
def issueEntry (slot : Nat) (limit : Nat) : Option Correction → DeadlineChange
  | none => .keep
  | some c => .join { slot := slot, epoch := c.epoch, issueTime := c.issueTime, limit := limit, expired := false,
                      heldOff := false }

/-- A processed station burst produces a BURST report (R107). -/
def burstReported (r : BurstResult) (issued : Bool) (reason : Option StateReason) : Bool :=
  match r.kind with
  | .data => decide (r.outcome ≠ .clean) || issued || reason.isSome
  | _ => true

/-- Offers a report under the hold when it is called for. -/
def State.offerIf (called : Bool) (make : Bool → Report) (sg : State × GapTrack) : State × GapTrack :=
  if called then State.offerHeld make sg else sg

/-- A change of state that the counting made: STATION_LOST when it enters LOST, and the STATE report (R117, R119,
R122, R123). -/
def State.offerChange (slot : Nat) (old : StationState) (c : Counted) (sg : State × GapTrack) : State × GapTrack :=
  match c.reason with
  | none => sg
  | some reason =>
    State.offerHeld
      (fun gap => .state { slot := some slot, old := some old, new := c.state, reason := reason, gap := gap })
      (if c.state = .lost then sg.1.raise .stationLost else sg.1, sg.2)

/-- The last part of a processing: BURST report, change of state, and the post of the image with its gap flag
(R105). -/
def State.finishResult (slot : Nat) (r : BurstResult) (old : StationState) (image : Record) (c : Counted)
    (deadline : DeadlineChange) (report : BurstReport) (issued : Bool) (sg : State × GapTrack) : State :=
  let sg := State.offerIf (burstReported r issued c.reason) (fun gap => .burst { report with gap := gap }) sg
  let sg := State.offerChange slot old c sg
  State.updatePosts r
    { slot := slot, image := { image.counted c with gap := sg.2.flag }, deadline := deadline, released := none,
      taken := none } sg.1

/-- The home lane's STORM state as it stands at the decision (R104, R115). -/
def State.stormy (lane : LaneId) (s : State) : Bool := decide ((s.lane lane).mode = .storm)

/-- A CLEAN result that is not STALE (R90 to R108). -/
def State.processClean (slot : Nat) (r : BurstResult) (image : Record) (m : Measurement) (trained : TapSet) (s : State) :
    State :=
  let p := s.profile image.profile
  let cls := classify image.pending r.start p.settle
  let w := work p image cls m trained
  let storm := s.stormy r.lane
  let issue := State.offerCorrection slot image w (callsForCorrection image cls storm w)
    (State.offerAbsorbed slot image cls r.start (s, GapTrack.start image))
  State.finishResult slot r image.state ((image.measured cls w m r.start).withIssue w issue.2) (count p image storm (some m))
    (issueEntry slot p.deliveryLimit issue.2)
    { r.report r.outcome with timingLimit := w.timing.limit, powerLimit := w.power.limit, pre := decide (cls = .pre) }
    issue.2.isSome issue.1

/-- A MISSED result that is not STALE: no arithmetic, the counting, its report and its post (R89). -/
def State.processMissed (slot : Nat) (r : BurstResult) (image : Record) (s : State) : State :=
  let p := s.profile image.profile
  State.finishResult slot r image.state image (count p image (s.stormy r.lane) none) .keep
    { r.report r.outcome with pre := decide (classify image.pending r.start p.settle = .pre) } false
    (s, GapTrack.start image)

/-- UPDATE_PROCESS (R87): a STALE result is released without a post and reported; any other is worked out, reported
and posted. -/
def execUpdateProcess (s : State) : Result :=
  .next (match s.update with
    | .ready slot r image =>
      if r.stale image then { s with update := .idle }.offer (.burst (r.report .stale))
      else
        match r.measured, r.trained with
        | some m, some trained => s.processClean slot r image m trained
        | _, _ => s.processMissed slot r image
    | _ => s)

end Sys2Proof.Machine
end

