-- ==== Sys2Proof/Machine/Dispatch.lean ====
section
/-! DEFINITION. One arm for each command: its meaning. -/

namespace Sys2Proof.Machine

def exec (i : Instr) (s : State) : Host.Outcome State Fault Refusal :=
  match i with
  | .reset => Sys2Proof.Machine.execReset s
  | .tick => Sys2Proof.Machine.execTick s
  | .syncPulse reportOrder unitOrder => Sys2Proof.Machine.execSyncPulse reportOrder unitOrder s
  | .grantNotice frame => Sys2Proof.Machine.execGrantNotice frame s
  | .grantHandover lane => Sys2Proof.Machine.execGrantHandover lane s
  | .lookupReadComplete bank => Sys2Proof.Machine.execLookupReadComplete bank s
  | .windowOpen lane => Sys2Proof.Machine.execWindowOpen lane s
  | .burstComplete lane samples => Sys2Proof.Machine.execBurstComplete lane samples s
  | .symbolUnitEmitted => Sys2Proof.Machine.execSymbolUnitEmitted s
  | .quietStart lane => Sys2Proof.Machine.execQuietStart lane s
  | .quietGrantDone lane => Sys2Proof.Machine.execQuietGrantDone lane s
  | .noiseLatch lane power => Sys2Proof.Machine.execNoiseLatch lane power s
  | .intervalMark lane => Sys2Proof.Machine.execIntervalMark lane s
  | .bankReadComplete bank => Sys2Proof.Machine.execBankReadComplete bank s
  | .drain bank => Sys2Proof.Machine.execDrain bank s
  | .postTakesEntry bank => Sys2Proof.Machine.execPostTakesEntry bank s
  | .holdTaken slot => Sys2Proof.Machine.execHoldTaken slot s
  | .updateTakeResult => Sys2Proof.Machine.execUpdateTakeResult s
  | .updateProcess => Sys2Proof.Machine.execUpdateProcess s
  | .deadlineExpire slot => Sys2Proof.Machine.execDeadlineExpire slot s
  | .withdrawalStart => Sys2Proof.Machine.execWithdrawalStart s
  | .correctionWithdraw => Sys2Proof.Machine.execCorrectionWithdraw s
  | .requestArrival frame => Sys2Proof.Machine.execRequestArrival frame s
  | .badRequest => Sys2Proof.Machine.execBadRequest s
  | .admitStation => Sys2Proof.Machine.execAdmit s
  | .retire => Sys2Proof.Machine.execRetire s
  | .move => Sys2Proof.Machine.execMove s
  | .recover => Sys2Proof.Machine.execRecover s
  | .amend => Sys2Proof.Machine.execAmend s
  | .fetch => Sys2Proof.Machine.execFetch s
  | .mapTags => Sys2Proof.Machine.execMapTags s
  | .unmapTags => Sys2Proof.Machine.execUnmapTags s
  | .clearAll => Sys2Proof.Machine.execClearAll s
  | .clearAllSlot => Sys2Proof.Machine.execClearAllSlot s
  | .delivered => Sys2Proof.Machine.execDelivered s
  | .profileSet => Sys2Proof.Machine.execProfileSet s
  | .profileGet => Sys2Proof.Machine.execProfileGet s
  | .laneSet => Sys2Proof.Machine.execLaneSet s
  | .laneStart => Sys2Proof.Machine.execLaneStart s
  | .laneStop => Sys2Proof.Machine.execLaneStop s
  | .noiseMode => Sys2Proof.Machine.execNoiseMode s
  | .noiseStatus => Sys2Proof.Machine.execNoiseStatus s
  | .clockSet => Sys2Proof.Machine.execClockSet s
  | .sweep => Sys2Proof.Machine.execSweep s
  | .sweepStop => Sys2Proof.Machine.execSweepStop s
  | .sweepStatus => Sys2Proof.Machine.execSweepStatus s
  | .sweepReadComplete => Sys2Proof.Machine.execSweepReadComplete s
  | .sweepFrameOffer => Sys2Proof.Machine.execSweepFrameOffer s
  | .sweepEnd => Sys2Proof.Machine.execSweepEnd s
  | .sweepDeadlineExpire => Sys2Proof.Machine.execSweepDeadlineExpire s
  | .alertRead => Sys2Proof.Machine.execAlertRead s
  | .alertAck => Sys2Proof.Machine.execAlertAck s
  | .alertSet => Sys2Proof.Machine.execAlertSet s
  | .outgoingFrameEnd => Sys2Proof.Machine.execOutgoingFrameEnd s

end Sys2Proof.Machine
end

