-- ==== Sys2Proof/Machine/Frames.lean ====
section
/-! DEFINITION. The bytes of frames, written from the spec's layouts: the report-type byte (R175), the BURST report
(R173) and the CORRECTION report (R174) on the outgoing direction; the grant notice (R172) and the requests (R175) as
the scheduler lays them out. -/

namespace Sys2Proof.Machine

/-- A number as so many bytes, most significant first. -/
def natToBytes (size n : Nat) : List Byte := (List.range size).map fun i => BitVec.ofNat 8 (n / 256 ^ (size - 1 - i))

/-- A signed number as so many bytes of two's complement, most significant first. -/
def intToBytes (size : Nat) (x : Int) : List Byte := natToBytes size (BitVec.ofInt (8 * size) x).toNat

/-- A mark or presence bit at a position. -/
def flagBit (b : Bool) (position : Nat) : Nat := if b then 2 ^ position else 0

/-- The report-type byte of a report's kind (R175). -/
def Report.typeByte : Report → Byte
  | .burst _ => 1
  | .correction _ => 2
  | .absorbed _ => 3
  | .withdrawn _ => 4
  | .state _ => 5
  | .newcomer _ => 6
  | .grantRefused _ => 7
  | .laneFlush _ => 8
  | .noise _ => 9
  | .sweepRecords _ => 10
  | .sweepEnd _ => 11

/-- The outcome byte of a BURST report (R173). -/
def BurstOutcome.code : BurstOutcome → Nat
  | .clean => 0
  | .missed => 1
  | .clash => 2
  | .orphan => 3
  | .mismatch => 4
  | .lookupLate => 5
  | .abandoned => 6
  | .unprocessed => 7
  | .stale => 8

/-- The presence and flag byte of a BURST report, byte 13 (R173). -/
def BurstReport.flagByte (r : BurstReport) : Nat :=
  flagBit r.tag.isSome 0 + flagBit r.slot.isSome 1 + flagBit r.generation.isSome 2 + flagBit r.measured.isSome 3 +
  flagBit r.timingLimit 4 + flagBit r.powerLimit 5 + flagBit r.clipped 6 + flagBit r.pre 7

/-- Bytes 15 to 23 of a BURST report: the measurements and q, or zeros (R173). -/
def BurstReport.measurementBytes (r : BurstReport) : List Byte :=
  match r.measured with
  | none => List.replicate 9 0
  | some m => intToBytes 4 m.error ++ intToBytes 1 m.power ++ intToBytes 2 m.freq ++ intToBytes 1 m.mer ++
      natToBytes 1 (r.quality.getD 0)

/-- The 24 bytes of a BURST report frame (R173). -/
def BurstReport.bytes (r : BurstReport) : List Byte :=
  natToBytes 1 1 ++ natToBytes 1 r.lane.val ++ natToBytes 1 r.kind.code ++ natToBytes 1 r.outcome.code ++
  natToBytes 4 r.start.toNat ++ natToBytes 2 (r.tag.getD 0) ++ natToBytes 2 (r.slot.getD 0) ++
  natToBytes 1 (r.generation.getD 0).toNat ++ natToBytes 1 r.flagByte ++ natToBytes 1 (flagBit r.gap 0) ++
  r.measurementBytes

/-- The eight taps of a CORRECTION report, bytes 22 to 53 (R174). -/
def TapSet.bytes (t : TapSet) : List Byte := t.toList.flatMap fun a => intToBytes 2 a.re ++ intToBytes 2 a.im

/-- The 22 or 54 bytes of a CORRECTION report frame (R174). -/
def CorrectionReport.bytes (r : CorrectionReport) : List Byte :=
  natToBytes 1 2 ++ natToBytes 1 r.epoch.toNat ++ natToBytes 2 r.slot ++ natToBytes 1 r.generation.toNat ++
  natToBytes 1 (flagBit r.tag.isSome 0 + flagBit r.taps.isSome 1 + flagBit r.gap 2) ++ natToBytes 2 (r.tag.getD 0) ++
  natToBytes 4 r.issueTime.toNat ++ intToBytes 4 r.timingDelta ++ intToBytes 2 r.powerDelta ++
  intToBytes 4 r.freqDelta ++ (match r.taps with | none => [] | some t => TapSet.bytes t)

/-! ### Incoming frames, as the scheduler lays them out -/

/-- The ten bytes of a grant notice (R172). -/
def Notice.frame (n : Notice) : List Byte :=
  natToBytes 1 n.lane ++ natToBytes 1 n.kind ++ natToBytes 4 n.start.toNat ++ natToBytes 2 n.length ++
  natToBytes 2 n.tag

/-- The thirty-five bytes of a PROFILE_SET frame's fields (R175). -/
def RawProfile.bytes (r : RawProfile) : List Byte :=
  intToBytes 1 r.target ++ natToBytes 1 r.powerDeadband ++ natToBytes 1 r.powerStep ++ intToBytes 1 r.powerFloor ++
  intToBytes 1 r.powerCeiling ++ natToBytes 1 r.timingDeadband ++ natToBytes 2 r.timingStep ++
  natToBytes 2 r.trackWindow ++ natToBytes 4 r.acquisitionWindow ++ natToBytes 2 r.freqDeadband ++
  natToBytes 2 r.lockTiming ++ natToBytes 1 r.lockPower ++ natToBytes 1 r.lockBursts ++ natToBytes 1 r.budget ++
  natToBytes 1 r.endCode ++ natToBytes 1 r.silenceLimit ++ natToBytes 1 r.modeCode ++ natToBytes 1 r.smoothing ++
  natToBytes 2 r.tapThreshold ++ natToBytes 4 r.deliveryLimit ++ natToBytes 4 r.settle

/-- The bytes of a request frame: its code, then its fields in order (R175). -/
def Request.frame : Request → List Byte
  | .admitStation slot lane profile timing power freq =>
    natToBytes 1 1 ++ natToBytes 2 slot ++ natToBytes 1 lane ++ natToBytes 1 profile ++ natToBytes 4 timing.toNat ++
    intToBytes 2 power ++ intToBytes 4 freq
  | .retire slot => natToBytes 1 2 ++ natToBytes 2 slot
  | .move slot lane => natToBytes 1 3 ++ natToBytes 2 slot ++ natToBytes 1 lane
  | .recover slot => natToBytes 1 4 ++ natToBytes 2 slot
  | .amend slot profile => natToBytes 1 5 ++ natToBytes 2 slot ++ natToBytes 1 profile
  | .fetch slot view => natToBytes 1 6 ++ natToBytes 2 slot ++ natToBytes 1 view
  | .mapTags slot base count => natToBytes 1 7 ++ natToBytes 2 slot ++ natToBytes 2 base ++ natToBytes 1 count
  | .unmapTags slot number fields =>
    natToBytes 1 8 ++ natToBytes 2 slot ++ natToBytes 1 number ++ fields.flatMap (natToBytes 2)
  | .clearAll => natToBytes 1 9
  | .delivered slot epoch time => natToBytes 1 10 ++ natToBytes 2 slot ++ natToBytes 1 epoch ++ natToBytes 4 time.toNat
  | .profileSet profile fields => natToBytes 1 11 ++ natToBytes 1 profile ++ fields.bytes
  | .profileGet profile => natToBytes 1 12 ++ natToBytes 1 profile
  | .laneSet lane rate preamble lookahead floor margin openWindow =>
    natToBytes 1 13 ++ natToBytes 1 lane ++ natToBytes 1 rate ++ natToBytes 1 preamble ++ natToBytes 2 lookahead ++
    intToBytes 2 floor ++ natToBytes 1 margin ++ natToBytes 4 openWindow
  | .laneStart lane => natToBytes 1 14 ++ natToBytes 1 lane
  | .laneStop lane => natToBytes 1 15 ++ natToBytes 1 lane
  | .noiseMode lane mode interval =>
    natToBytes 1 16 ++ natToBytes 1 lane ++ natToBytes 1 mode ++ natToBytes 1 interval
  | .noiseStatus lane => natToBytes 1 17 ++ natToBytes 1 lane
  | .clockSet value => natToBytes 1 18 ++ natToBytes 4 value.toNat
  | .sweep first count states lanes profiles view deadline =>
    natToBytes 1 19 ++ natToBytes 2 first ++ natToBytes 2 count ++ natToBytes 1 states ++ natToBytes 1 lanes ++
    natToBytes 1 profiles ++ natToBytes 1 view ++ natToBytes 2 deadline
  | .sweepStop => natToBytes 1 20
  | .sweepStatus => natToBytes 1 21
  | .alertRead => natToBytes 1 22
  | .alertAck causes => natToBytes 1 23 ++ natToBytes 2 causes
  | .alertSet enables plant station flow service threshold =>
    natToBytes 1 24 ++ natToBytes 2 enables ++ natToBytes 1 plant ++ natToBytes 1 station ++ natToBytes 1 flow ++
    natToBytes 1 service ++ natToBytes 1 threshold

/-! ### Field sizes -/

/-- A number fits an unsigned field of so many bytes. -/
def fitsUnsigned (size n : Nat) : Bool := decide (n < 256 ^ size)

/-- A number fits a two's-complement field of so many bytes. -/
def fitsSigned (size : Nat) (x : Int) : Bool :=
  decide (-(256 ^ size : Nat) ≤ 2 * x) && decide (2 * x < (256 ^ size : Nat))

/-- The fields of a profile fit their sizes (R175). -/
def RawProfile.fits (r : RawProfile) : Bool :=
  fitsSigned 1 r.target && fitsUnsigned 1 r.powerDeadband && fitsUnsigned 1 r.powerStep && fitsSigned 1 r.powerFloor &&
  fitsSigned 1 r.powerCeiling && fitsUnsigned 1 r.timingDeadband && fitsUnsigned 2 r.timingStep &&
  fitsUnsigned 2 r.trackWindow && fitsUnsigned 4 r.acquisitionWindow && fitsUnsigned 2 r.freqDeadband &&
  fitsUnsigned 2 r.lockTiming && fitsUnsigned 1 r.lockPower && fitsUnsigned 1 r.lockBursts && fitsUnsigned 1 r.budget &&
  fitsUnsigned 1 r.endCode && fitsUnsigned 1 r.silenceLimit && fitsUnsigned 1 r.modeCode && fitsUnsigned 1 r.smoothing &&
  fitsUnsigned 2 r.tapThreshold && fitsUnsigned 4 r.deliveryLimit && fitsUnsigned 4 r.settle

/-- The fields of a request fit their sizes, and UNMAP_TAGS has its eight tag fields (R175). -/
def Request.fits : Request → Bool
  | .admitStation slot lane profile timing power freq =>
    fitsUnsigned 2 slot && fitsUnsigned 1 lane && fitsUnsigned 1 profile && decide (0 ≤ timing) &&
    fitsUnsigned 4 timing.toNat && fitsSigned 2 power && fitsSigned 4 freq
  | .retire slot => fitsUnsigned 2 slot
  | .move slot lane => fitsUnsigned 2 slot && fitsUnsigned 1 lane
  | .recover slot => fitsUnsigned 2 slot
  | .amend slot profile => fitsUnsigned 2 slot && fitsUnsigned 1 profile
  | .fetch slot view => fitsUnsigned 2 slot && fitsUnsigned 1 view
  | .mapTags slot base count => fitsUnsigned 2 slot && fitsUnsigned 2 base && fitsUnsigned 1 count
  | .unmapTags slot number fields =>
    fitsUnsigned 2 slot && fitsUnsigned 1 number && decide (fields.length = 8) && fields.all (fitsUnsigned 2)
  | .clearAll => true
  | .delivered slot epoch _ => fitsUnsigned 2 slot && fitsUnsigned 1 epoch
  | .profileSet profile fields => fitsUnsigned 1 profile && fields.fits
  | .profileGet profile => fitsUnsigned 1 profile
  | .laneSet lane rate preamble lookahead floor margin openWindow =>
    fitsUnsigned 1 lane && fitsUnsigned 1 rate && fitsUnsigned 1 preamble && fitsUnsigned 2 lookahead &&
    fitsSigned 2 floor && fitsUnsigned 1 margin && fitsUnsigned 4 openWindow
  | .laneStart lane => fitsUnsigned 1 lane
  | .laneStop lane => fitsUnsigned 1 lane
  | .noiseMode lane mode interval => fitsUnsigned 1 lane && fitsUnsigned 1 mode && fitsUnsigned 1 interval
  | .noiseStatus lane => fitsUnsigned 1 lane
  | .clockSet _ => true
  | .sweep first count states lanes profiles view deadline =>
    fitsUnsigned 2 first && fitsUnsigned 2 count && fitsUnsigned 1 states && fitsUnsigned 1 lanes &&
    fitsUnsigned 1 profiles && fitsUnsigned 1 view && fitsUnsigned 2 deadline
  | .sweepStop => true
  | .sweepStatus => true
  | .alertRead => true
  | .alertAck causes => fitsUnsigned 2 causes
  | .alertSet enables plant station flow service threshold =>
    fitsUnsigned 2 enables && fitsUnsigned 1 plant && fitsUnsigned 1 station && fitsUnsigned 1 flow &&
    fitsUnsigned 1 service && fitsUnsigned 1 threshold

end Sys2Proof.Machine
end

