-- ==== Sys2Proof/Safety.lean ====
section
/-! DEFINITION. What a sound state of the part is: the capacity laws of the spec's queues, the canonical form of the
station table and the tag map, the holds and the records in hand, the order of a sweep, what the two link directions and
the banks owe, the order of the grant queues, the use counts, the deadline list, and the ranges of the stored values. Each
is a predicate that every step keeps. Beside them, the views of a state that statements about commands use. -/

namespace Sys2Proof.Safety

open Sys2Proof.Machine

/-! ### Views -/

/-- The reports in the order they entered the queue: the one being sent, then those that wait (R169, R170). -/
def reportsInOrder (s : State) : List Report :=
  (match s.sending with
    | some (.report r) => [r]
    | _ => []) ++ s.reports

/-- The lane a flush report is about (R46, R65). -/
def reportLane : Report → Option LaneId
  | .burst r => some r.lane
  | .laneFlush r => some r.lane
  | _ => none

/-- The flag of an alert cause is set (R184). -/
def flagged (s : State) (c : Cause) : Prop := s.alert.flag c = true

/-! ### Capacities and canonical forms -/

/-- A lane within its capacities: at most 32 queued grants (R50), two held grants (R54), two results (R83). -/
def laneBounded (l : Lane) : Bool :=
  decide (l.queue.length ≤ Config.grantQueue) && decide (l.held.length ≤ Config.heldGrants) &&
  decide (l.holder.length ≤ Config.resultHolder)

/-- A bank within its capacity of two posted images (R33), its array in canonical form. -/
def bankBounded (b : Bank) : Bool := decide (b.queue.length ≤ Config.postedWrites) && tableWf b.array

/-- Every capacity law holds, and the station table and the tag map are in canonical form. -/
def Bounded (s : State) : Prop :=
  (∀ l, laneBounded (s.lane l) = true) ∧ (∀ k, bankBounded (s.bank k) = true) ∧
  s.requests.length ≤ Config.requestQueue ∧ s.reports.length ≤ Config.reportQueue ∧ tagMapWf s.tagMap = true

/-! ### Holds and records in hand -/

/-- No two writers have the hold of one slot (R38). -/
def HoldsApart (s : State) : Prop :=
  (∀ slot, s.update.heldSlot = some slot → s.commandHeld ≠ some slot ∧ s.timer.heldSlot ≠ some slot) ∧
  (∀ slot, s.commandHeld = some slot → s.timer.heldSlot ≠ some slot)

/-- The read a writer in this phase has outstanding (R29). -/
def readSlot {ω : Type} : Phase ω → Option Nat
  | .reading slot _ => some slot
  | _ => none

/-- The read a requester of the store has outstanding, where its own state tells (R29). -/
def owedRead (s : State) : Requester → Option Nat
  | .update => readSlot s.update
  | .command => readSlot s.command
  | .timer => readSlot s.timer
  | _ => none

/-- The writers among the requesters (R38). -/
def isWriter : Requester → Bool
  | .update => true
  | .command => true
  | .timer => true
  | _ => false

/-- The reads of a requester that a bank has, granted or waiting. -/
def bankReads (who : Requester) (b : Bank) : List Nat :=
  (match b.access with
    | .read (some w) slot _ _ => if w = who then [slot] else []
    | _ => []) ++ (b.waiting.filter fun r => decide (r.who = who)).map fun r => r.slot

/-- Each writer has exactly the read outstanding that its phase shows, at its slot's bank, and no other (R28, R29). -/
def ReadsMatch (s : State) : Prop :=
  ∀ who, isWriter who = true → ∀ k,
    bankReads who (s.bank k) =
      (match owedRead s who with
        | some slot => if bankOf slot = k then [slot] else []
        | none => [])

/-- Every record in the hands of a writer under a hold is the slot's newest image (R39): the record it works on, and
the image that its read in progress will return. FETCH takes no hold. -/
def HandsNewest (s : State) : Prop :=
  (∀ slot r image, s.update = .ready slot r image → image = s.record slot) ∧
  (∀ slot e image, s.timer = .ready slot e image → image = s.record slot) ∧
  (∀ slot q image, s.command = .ready slot q image → s.commandHeld = some slot → image = s.record slot) ∧
  (∀ k slot image granted, (s.bank k).access = .read (some .update) slot image granted → image = s.record slot) ∧
  (∀ k slot image granted, (s.bank k).access = .read (some .timer) slot image granted → image = s.record slot) ∧
  (∀ k slot image granted, (s.bank k).access = .read (some .command) slot image granted →
    s.commandHeld = some slot → image = s.record slot)

/-- A writer's work under a hold is never lost (R38, R39). -/
def HeldRecordsNewest (s : State) : Prop :=
  (∀ k, tableWf (s.bank k).array = true) ∧ HoldsApart s ∧ ReadsMatch s ∧ HandsNewest s

/-! ### The tag map and the records -/

/-- A record's tags list is strictly rising, holds at most 8 tags, and is empty in a FREE slot (R12). -/
def tagsLawful (r : Record) : Prop :=
  r.tags.Pairwise (· < ·) ∧ r.tags.length ≤ Config.tagsPerStation ∧ (r.state = .free → r.tags = [])

/-- The post that a writer holds back for want of room. -/
def waitingPost {ω : Type} : Phase ω → Option Post
  | .posting _ post => some post
  | _ => none

/-- The law of R12: each tag maps to at most one slot, and the tags list of every slot holds exactly the tags mapped to
it. A post that waits for room will keep it: the update engine's and the timer's leave the slot's tags, and those of a
request's post are mapped to no other slot. -/
def TagsMirrored (s : State) : Prop :=
  HeldRecordsNewest s ∧ tagMapWf s.tagMap = true ∧
  (∀ slot tag, tag ∈ (s.record slot).tags ↔ tagFind s.tagMap tag = some slot) ∧
  (∀ slot, tagsLawful (s.record slot)) ∧
  (∀ p, waitingPost s.update = some p → p.image.tags = (s.record p.slot).tags ∧ tagsLawful p.image) ∧
  (∀ p, waitingPost s.timer = some p → p.image.tags = (s.record p.slot).tags ∧ tagsLawful p.image) ∧
  (∀ p, waitingPost s.command = some p → tagsLawful p.image ∧
    ∀ tag ∈ p.image.tags, ∀ slot, tagFind s.tagMap tag = some slot → slot = p.slot)

/-! ### Sweeps -/

/-- The slots of a sweep frame's records, in frame order. -/
def frameSlots (frame : List SweepRecord) : List Nat := frame.map fun x => x.view.summary.slot

/-- The open frame's records are in strictly rising slot order, all of slots already read, and none below the resume
point (R177 to R180). -/
def SweepOrdered (s : State) : Prop :=
  ∀ r, s.sweep.run = some r →
    (frameSlots r.frame).Pairwise (· < ·) ∧ (∀ n ∈ frameSlots r.frame, r.resume ≤ n ∧ n < r.next) ∧ r.resume ≤ r.next

/-! ### What is owed -/

/-- Whether the command engine has a request in hand, as a count (R167). -/
def busyCount (s : State) : Nat := if s.command = .idle then 0 else 1

/-- The reply order: completed entries first, then one entry for the request in hand and one for each request in the
queue, in its order and with its code; a completed entry whose own reply has gone owes FULL replies; a reply being sent
is of the oldest entry (R166, R167, R169). -/
def RepliesOwed (s : State) : Prop :=
  ∃ complete owed : List ReplyEntry,
    s.replies = complete ++ owed ∧
    (∀ e ∈ complete, e.reply ≠ none ∧ (e.sent = true → e.refused ≠ [])) ∧
    (∀ e ∈ owed, e.reply = none ∧ e.sent = false) ∧
    owed.length = s.requests.length + busyCount s ∧
    (owed.drop (busyCount s)).map (fun e => e.code) = s.requests.map requestCode ∧
    (∀ r, s.sending = some (.reply r) → complete ≠ [])

/-- The outgoing direction is idle only when neither a reply nor a report could be sent (R169). -/
def LinkBusy (s : State) : Prop := s.sending = none → dueReply s.replies = none ∧ s.reports = []

/-- The station link owes each request its reply and loses no turn (R166, R167, R169). -/
def LinkSound (s : State) : Prop := RepliesOwed s ∧ LinkBusy s

/-- A bank is idle only when no read and no posted image waits for it, or a waiting post is about to take a freed entry
(R30, R34; log entry 12). -/
def BanksBusy (s : State) : Prop :=
  ∀ k, (s.bank k).access = .idle →
    ((s.bank k).waiting = [] ∧ (s.bank k).queue = []) ∨ (s.postWaits k = true ∧ (s.bank k).hasEntry = true)

/-! ### Grant queues -/

/-- A waiting grant and the one behind it: the later one starts neither before the start nor before the end of the one
ahead (R50). -/
def follows (l : Lane) (ahead behind : Grant) : Prop :=
  (behind.start - ahead.start).toNat < 2147483648 ∧ (behind.start - l.endOf ahead).toNat < 2147483648

/-- A lane's grant queue is in start-time order without overlap (R50). An OFF lane has nothing queued or held and no tail
reference (R62, R65); the tail reference of a lane whose queue is not empty is of the last grant in it (R50). -/
def laneOrdered (l : Lane) : Prop :=
  (l.mode = .off → l.queue = [] ∧ l.held = [] ∧ l.tail = none) ∧
  (∀ before ahead behind after, l.queue = before ++ ahead :: behind :: after → follows l ahead behind) ∧
  (∀ g, l.queue.getLast? = some g → l.tail = some { start := g.start, finish := l.endOf g }) ∧
  (∀ g ∈ l.queue, 32 ≤ g.length ∧ g.length ≤ 4096)

/-- Every lane's grant queue is in order (R50). -/
def GrantsOrdered (s : State) : Prop := ∀ l, laneOrdered (s.lane l)

/-- No lane whose queue is not empty has let its newest grant lie far behind the count: less than 2^31 − 2^23 ticks. Due
heads leave the queue long before; the model leaves that to the sender of the commands (R55, R56; log entry 2). -/
def GrantsTimely (s : State) : Prop :=
  ∀ l t, (s.lane l).queue ≠ [] → (s.lane l).tail = some t →
    (s.clock.count - t.finish).toNat < 2147483648 → (s.clock.count - t.finish).toNat < 2139095040

/-! ### Posts that wait, slots and use counts -/

/-- The posts that wait for room, of all three writers (R34). -/
def waitingPosts (s : State) : List Post :=
  (waitingPost s.update).toList ++ (waitingPost s.command).toList ++ (waitingPost s.timer).toList

/-- The slot a writer's work is on. -/
def phaseSlot {ω : Type} : Phase ω → Option Nat
  | .idle => none
  | .atSlot slot _ => some slot
  | .waiting slot _ => some slot
  | .reading slot _ => some slot
  | .ready slot _ _ => some slot
  | .posting _ post => some post.slot

/-- Live stations and the command engine's work are on slots 0..1023 (R2, R16). -/
def SlotsNamed (s : State) : Prop :=
  (∀ n, phaseSlot s.command = some n → n < Config.slots) ∧
  (∀ n, Config.slots ≤ n → (s.record n).state = .free) ∧
  (∀ w ∈ waitingPosts s, w.image.state ≠ .free → w.slot < Config.slots)

/-- The profile a record makes used: the one it names, while it is live (R26). -/
def liveProfile (r : Record) : Option ProfileId := if r.state = .free then none else some r.profile

/-- The number of live slots whose record names a profile (R26). -/
def stationsUnder (s : State) (p : ProfileId) : Nat :=
  ((List.range Config.slots).filter fun n => decide (liveProfile (s.record n) = some p)).length

/-- A waiting post that changes no use count: it leaves its slot's profile in use as it is (R26). -/
def keepsUse (s : State) (w : Post) : Prop :=
  w.released = none ∧ w.taken = none ∧ liveProfile w.image = liveProfile (s.record w.slot)

/-- A waiting post that moves the use counts from the profile its slot makes used to the one its image does (R26). -/
def movesUse (s : State) (w : Post) : Prop :=
  w.released = liveProfile (s.record w.slot) ∧ w.taken = liveProfile w.image

/-- The law of R26: each use count is the number of live slots whose record names the profile. The command engine's
posts alone change it. -/
def UsesCounted (s : State) : Prop :=
  (∀ p, (s.profileEntry p).useCount = stationsUnder s p) ∧
  (∀ w, waitingPost s.update = some w → keepsUse s w) ∧ (∀ w, waitingPost s.timer = some w → keepsUse s w) ∧
  (∀ w, waitingPost s.command = some w → keepsUse s w ∨ movesUse s w)

/-! ### The deadline list -/

/-- Epoch and issue time of the ISSUED correction of a record, if it has one (R9). -/
def issuedOf (r : Record) : Option (Epoch × Time) :=
  match r.pending with
  | none => none
  | some c => if c.state = .issued then some (c.epoch, c.issueTime) else none

/-- A FREE slot has no pending correction and no last withdrawn epoch (R2, R127). -/
def freeIsClear (r : Record) : Prop := r.state = .free → r.pending = none ∧ r.lastWithdrawn = none

/-- Epoch and issue time of the deadline entries of a slot, in list order (R127). -/
def entriesOf (s : State) (slot : Nat) : List (Epoch × Time) :=
  (s.deadlines.filter fun e => decide (e.slot = slot)).map fun e => (e.epoch, e.issueTime)

/-- A waiting post whose change of the deadline list goes with its image (R127). -/
def postMirrors (s : State) (w : Post) : Prop :=
  match w.deadline with
  | .keep => issuedOf w.image = issuedOf (s.record w.slot)
  | .join e => e.slot = w.slot ∧ issuedOf w.image = some (e.epoch, e.issueTime) ∧ issuedOf (s.record w.slot) = none
  | .leave slot => slot = w.slot ∧ issuedOf w.image = none

/-- The law of R127: the deadline list holds exactly one entry for each ISSUED correction, and a FREE slot has none
pending. -/
def DeadlinesMirrored (s : State) : Prop :=
  HeldRecordsNewest s ∧ SlotsNamed s ∧ (∀ n, freeIsClear (s.record n)) ∧
  (∀ n, entriesOf s n = (issuedOf (s.record n)).toList) ∧
  (∀ w ∈ waitingPosts s, freeIsClear w.image ∧ postMirrors s w)

/-- How far an entry's deadline lies after a plant time (R127). -/
def deadlineAfter (base : Time) (e : DeadlineEntry) : Nat := (e.issueTime + BitVec.ofNat 32 e.limit - base).toNat

/-- The deadlines of the list rise, counted from a plant time that none of them lies before (R127). -/
def deadlinesRise (base : Time) (list : List DeadlineEntry) : Prop :=
  (∀ e ∈ list, deadlineAfter base e < 2147483648) ∧ list.Pairwise fun a b => deadlineAfter base a ≤ deadlineAfter base b

/-! ### Ranges -/

/-- Every component of a tap set lies within −32768..32767 (R6). -/
def tapsInRange (t : TapSet) : Prop :=
  ∀ a ∈ t.toList, (-32768 ≤ a.re ∧ a.re ≤ 32767) ∧ (-32768 ≤ a.im ∧ a.im ≤ 32767)

/-- A timing total within 0..2,097,151, a power total within −128..+127 and a frequency total within ±20,000 (R5, R17,
R142). -/
def totalsInRange (timing power freq : Int) : Prop :=
  (0 ≤ timing ∧ timing ≤ 2097151) ∧ (-128 ≤ power ∧ power ≤ 127) ∧ (-20000 ≤ freq ∧ freq ≤ 20000)

/-- The saturated measurements of a detected burst (R74, R79). -/
def measurementInRange (m : Measurement) : Prop :=
  (-128 ≤ m.power ∧ m.power ≤ 127) ∧ (-32767 ≤ m.freq ∧ m.freq ≤ 32767) ∧ (0 ≤ m.mer ∧ m.mer ≤ 200)

/-- The deltas and the tap set of a pending correction (R9). -/
def correctionInRange (c : Correction) : Prop :=
  (-2097151 ≤ c.timingDelta ∧ c.timingDelta ≤ 2097151) ∧ (-255 ≤ c.powerDelta ∧ c.powerDelta ≤ 255) ∧
  (-40000 ≤ c.freqDelta ∧ c.freqDelta ≤ 40000) ∧ (∀ t, c.taps = some t → tapsInRange t)

/-- A record's values lie within the ranges of R2, its tags within those of R12, those of its pending correction within R9, and its totals within R5
also after a withdrawal of the pending correction (R130). -/
def recordInRange (r : Record) : Prop :=
  totalsInRange r.timing r.power r.freq ∧ tapsInRange r.taps ∧ (∀ q, r.quality = some q → q ≤ 15) ∧
  (∀ x, r.last = some x → measurementInRange x.values) ∧ r.missCount ≤ 15 ∧ r.alignedCount ≤ 7 ∧ r.budget ≤ 63 ∧
  (∀ t ∈ r.tags, t < 16384) ∧
  (∀ c, r.pending = some c → correctionInRange c ∧
    totalsInRange (r.timing - c.timingDelta) (r.power - c.powerDelta) (r.freq - c.freqDelta))

/-- The fields of a profile lie within the values of R142, and its two relations hold. -/
def profileInRange (p : Profile) : Prop :=
  (-64 ≤ p.target ∧ p.target ≤ 63) ∧ p.powerDeadband ≤ 31 ∧ (1 ≤ p.powerStep ∧ p.powerStep ≤ 48) ∧
  (-128 ≤ p.powerFloor ∧ p.powerFloor ≤ p.powerCeiling ∧ p.powerCeiling ≤ 127) ∧
  p.timingDeadband ≤ 255 ∧ (1 ≤ p.timingStep ∧ p.timingStep ≤ 4095) ∧
  (64 ≤ p.trackWindow ∧ p.trackWindow ≤ 16383 ∧ p.timingStep ≤ p.trackWindow) ∧
  (256 ≤ p.acquisitionWindow ∧ p.acquisitionWindow ≤ 262143) ∧ p.freqDeadband ≤ 2000 ∧ p.lockTiming ≤ 4095 ∧
  p.lockPower ≤ 31 ∧ (1 ≤ p.lockBursts ∧ p.lockBursts ≤ 7) ∧ (1 ≤ p.budget ∧ p.budget ≤ 63) ∧
  (1 ≤ p.silenceLimit ∧ p.silenceLimit ≤ 15) ∧ p.smoothing ≤ 6 ∧ (1 ≤ p.tapThreshold ∧ p.tapThreshold ≤ 1023) ∧
  (4096 ≤ p.deliveryLimit ∧ p.deliveryLimit ≤ 16777215) ∧ p.settle ≤ 1048575

/-- The six settings of a lane lie within the values of R62. -/
def settingsInRange (x : Settings) : Prop :=
  (x.preamble = 16 ∨ x.preamble = 32 ∨ x.preamble = 64) ∧ (64 ≤ x.lookahead ∧ x.lookahead ≤ 65535) ∧
  (-320 ≤ x.defaultFloor ∧ x.defaultFloor ≤ 80) ∧ (8 ≤ x.margin ∧ x.margin ≤ 255) ∧
  (256 ≤ x.openWindow ∧ x.openWindow ≤ 262143)

/-- A noise monitor's values lie within those of R152, and its mark is clear while it is unmeasured (R155). -/
def monitorInRange (m : Monitor) : Prop :=
  (∃ seconds, 1 ≤ seconds ∧ seconds ≤ 60 ∧ m.interval = seconds * 20000000) ∧
  (∀ k, m.latched = some k → (-320 ≤ k.level ∧ k.level ≤ 80) ∧ k.grade ≤ 15) ∧ m.consecutive ≤ 4 ∧
  (m.latched = none → m.mark = false)

/-- A result's measurements and trained set lie within their ranges (R78, R79). -/
def resultInRange (r : BurstResult) : Prop :=
  (∀ m, r.measured = some m → measurementInRange m) ∧ (∀ c, r.trained = some c → tapsInRange c)

/-- A lane's settings, monitor, results and starting sets lie within their ranges. -/
def laneInRange (l : Lane) : Prop :=
  settingsInRange l.settings ∧ monitorInRange l.monitor ∧ (∀ r ∈ l.holder, resultInRange r) ∧
  (∀ h ∈ l.held, ∀ t, h.reception.startingSet = some t → tapsInRange t)

/-- The priorities and the threshold of the alert unit (R183). -/
def alertInRange (a : AlertUnit) : Prop :=
  a.plant ≤ 3 ∧ a.station ≤ 3 ∧ a.flow ≤ 3 ∧ a.service ≤ 3 ∧ 1 ≤ a.threshold ∧ a.threshold ≤ 3

/-- A deadline entry's delivery limit (R127). -/
def limitInRange (e : DeadlineEntry) : Prop := 4096 ≤ e.limit ∧ e.limit ≤ 16777215

/-- The descriptor and the progress of a sweep lie within the values of R176. -/
def sweepInRange (r : SweepRun) : Prop :=
  (r.first ≤ r.last ∧ r.last < 1024) ∧ (20000 ≤ r.deadline ∧ r.deadline ≤ 20000000) ∧
  (r.states ≠ 0 ∧ r.states.getLsbD 0 = false) ∧ r.lanes ≠ 0 ∧ r.profiles ≠ 0 ∧
  (r.first ≤ r.next ∧ r.next ≤ r.last + 1) ∧ r.resume ≤ 1024 ∧
  r.frame.length ≤ (match r.view with
    | .summary => 8
    | .full => 4) ∧
  (∀ n ∈ frameSlots r.frame, n ≤ r.last)

/-- The slot whose read a RUNNING sweep has outstanding: the next slot to read, unless its open frame waits for room
(R177 to R179). -/
def sweepAwaits (s : State) : Option Nat :=
  match s.sweep.phase, s.sweep.run with
  | .running, some r => if r.frameReady then none else some r.next
  | _, _ => none

/-- The sweep engine's values lie within those of R176. It has exactly the read outstanding that its progress shows, at
that slot's bank, and never reads past its range (R177 to R179). -/
def SweepBounded (s : State) : Prop :=
  (∀ r, s.sweep.run = some r → sweepInRange r) ∧
  (∀ r, s.sweep.run = some r → sweepAwaits s = some r.next → r.next ≤ r.last) ∧
  (∀ k, bankReads .sweep (s.bank k) =
    (match sweepAwaits s with
      | some slot => if bankOf slot = k then [slot] else []
      | none => []))

/-- The totals that an ADMIT in hand names lie within their ranges (R17), and so does the block of a MAP_TAGS (R14). -/
def requestInRange : Request → Prop
  | .admitStation _ _ _ timing power freq => totalsInRange timing power freq
  | .mapTags _ base count => base < 16384 ∧ (count = 1 ∨ count = 2 ∨ count = 4 ∨ count = 8)
  | _ => True

/-- What a writer has in hand is in range. -/
def phaseInRange {ω : Type} (workInRange : ω → Prop) : Phase ω → Prop
  | .idle => True
  | .atSlot _ work => workInRange work
  | .waiting _ work => workInRange work
  | .reading _ work => workInRange work
  | .ready _ work image => workInRange work ∧ recordInRange image
  | .posting work post => workInRange work ∧ recordInRange post.image ∧ ∀ e, post.deadline = .join e → limitInRange e

/-- The records of a bank lie in their ranges: in its array, in its posted images and in the read it serves. -/
def bankInRange (b : Bank) : Prop :=
  (∀ e ∈ b.array, recordInRange e.2) ∧ (∀ p ∈ b.queue, recordInRange p.image) ∧
  (∀ who slot image granted, b.access = .read who slot image granted → recordInRange image)

/-- The laws that tie a live station to the profile it names: its power total lies within the profile's bounds, also
after a withdrawal of its pending correction (R5, R130); in TRACK its miss count stays below the silence limit (R8); in
ACQUIRE it has budget left (R111). -/
def stationLawful (s : State) (r : Record) : Prop :=
  r.state ≠ .free →
    let p := s.profile r.profile
    (p.powerFloor ≤ r.power ∧ r.power ≤ p.powerCeiling) ∧
    (∀ c, r.pending = some c → p.powerFloor ≤ r.power - c.powerDelta ∧ r.power - c.powerDelta ≤ p.powerCeiling) ∧
    (r.state = .track → r.missCount < p.silenceLimit) ∧ (r.state = .acquire → 1 ≤ r.budget)

/-- Every stored value lies within the range the spec gives it: those of records, profiles, lanes, monitors, results,
deadline entries, refusal counts, sweeps and the alert unit; each use count is the number of its stations (R26), and
every station keeps the laws of its profile (R5, R8, R111). -/
def ValuesInRange (s : State) : Prop :=
  HeldRecordsNewest s ∧ SlotsNamed s ∧ UsesCounted s ∧
  (∀ k, bankInRange (s.bank k)) ∧ (∀ p, profileInRange (s.profile p)) ∧ (∀ l, laneInRange (s.lane l)) ∧
  phaseInRange resultInRange s.update ∧ phaseInRange requestInRange s.command ∧ phaseInRange (fun _ => True) s.timer ∧
  (∀ e ∈ s.deadlines, limitInRange e) ∧ (∀ e ∈ s.replies, e.refused.length ≤ Config.refusals) ∧
  SweepBounded s ∧ alertInRange s.alert ∧
  (∀ n, stationLawful s (s.record n)) ∧ (∀ w ∈ waitingPosts s, stationLawful s w.image)

end Sys2Proof.Safety
end

