-- ==== Sys2Proof/Certificates/Slice0/Obligations.lean ====
section
/-! DEFINITION. The statements for the provers. Each says what one command, one operation or the whole part does, from
the rules of spec/ that its docstring names. "Offered" reports, "answered" replies, posts and holds are the shared
operations of Sys2Proof/Machine/Ops.lean, whose own effects OfferedReportsEnterOrDrop, PostMakesTheRecord and
RecordRequestsTakeTheHold state. -/

section
open Sys2Proof Sys2Proof.Machine Sys2Proof.Safety

/-! ### The part as a whole -/

/-- A step carries out the command at the front of the queue on the state with the rest of the queue; an empty queue
idles (95; log entry 4 for the idling). -/
def Obligations.StepRunsFrontCommand : Prop :=
  (∀ (s : State) (c : Instr) (rest : List Instr), s.pending = c :: rest → step s = exec c { s with pending := rest }) ∧
  (∀ s : State, s.pending = [] → step s = .next s)

/-- Every command completes in every state, without a fault or a refusal, and leaves the waiting commands alone. That each
row is one whole step is 95's; that a command whose condition does not hold completes too, leaving the state as it is, and
that RESET keeps the waiting commands are the model's choices (log entries 1 and 5). -/
def Obligations.EveryCommandCompletesAndKeepsTheQueue : Prop :=
  ∀ (c : Instr) (s : State), ∃ t, exec c s = .next t ∧ t.pending = s.pending

/-- RESET gives every piece of state its reset value (R11, R42, R43, R50, R62, R83, R142, R152, R166, R176, R183); the
commands that wait stay (log entry 5). -/
def Obligations.ResetRestoresEveryPiece : Prop :=
  ∀ s : State, ∃ t, exec .reset s = .next t ∧ t.pending = s.pending ∧
    t.clock = { count := 0, synchronised := false, armed := none } ∧
    (∀ l : LaneId, t.lane l =
      { mode := .off
        settings := { rate := .high, preamble := 32, lookahead := 4096, defaultFloor := -160, margin := 40,
                      openWindow := 65536 }
        queue := [], tail := none, held := [], holder := []
        monitor := { mode := .off, interval := 80000000, latched := none, mark := false, consecutive := 0 } }) ∧
    (∀ n : Nat, (t.record n).state = .free ∧ (t.record n).generation = 0 ∧ (t.record n).nextEpoch = 0 ∧
      (t.record n).tags = [] ∧ (t.record n).pending = none ∧ (t.record n).lastWithdrawn = none ∧
      (t.record n).gap = false) ∧
    (∀ k : BankId, (t.bank k).queue = [] ∧ (t.bank k).waiting = [] ∧ (t.bank k).access = .idle) ∧
    (∀ n : Nat, t.holder n = none) ∧
    (∀ p : ProfileId, (t.profileEntry p).useCount = 0 ∧ t.profile p =
      { target := 0, powerDeadband := 4, powerStep := 8, powerFloor := -48, powerCeiling := 48, timingDeadband := 16,
        timingStep := 512, trackWindow := 2048, acquisitionWindow := 16384, freqDeadband := 100, lockTiming := 64,
        lockPower := 8, lockBursts := 2, budget := 16, endCondition := .either, silenceLimit := 6,
        silenceMode := .missedOnly, smoothing := 2, tapThreshold := 40, deliveryLimit := 2097152, settle := 20000 }) ∧
    t.tagMap = [] ∧ t.update = .idle ∧ t.deadlines = [] ∧ t.timer = .idle ∧ t.command = .idle ∧ t.requests = [] ∧
    t.replies = [] ∧ t.reports = [] ∧ t.sending = none ∧
    t.sweep = { phase := .idle, result := .none, run := none } ∧ t.port = [] ∧
    t.alert = { flags := 0, enables := 0, plant := 0, station := 0, flow := 0, service := 0, threshold := 1 } ∧
    t.alert.line = false

/-! ### The plant clock and the deadline list -/

/-- What every change of the count does beside the count (R128, R155, R180): every unmarked deadline entry is tested at the
new count, and so is every measured monitor; a mark stays set. An entry whose issue time, or a sweep whose start, a
backward trim left ahead of the count is not tested until the count has reached it again or a slip loads the count (log
entry 17), and an entry whose post still waits for room keeps the same note for when it joins. Nothing else changes.
TICK advances the count by one modulo 2^32 and makes these tests (R43; log entry 3); it does not stop a sweep whose deadline
it brings, which is SWEEP_DEADLINE_EXPIRE's (log entry 18).
DEADLINE_EXPIRE makes the test for the entry of a slot, INTERVAL_MARK for the monitor of a lane (R128, R155; log entry 3).
CLOCK_SET arms V in place of any value armed before, changes neither count nor flag, and answers OK with both as they
stand (R44).
SYNC_PULSE without a slip: ignored without an armed value; a first load sets count and flag and nothing else; a trim,
within two ticks, loads the count and makes the tests, with no other effect (R45, R61). -/
def Obligations.CountChangesTestDeadlinesAndIntervals : Prop :=
  (∀ (s : State) (change : CountChange),
    let off (t : Time) (was : Bool) : Bool := match change with
      | .tick => was && decide (2147483648 ≤ (s.clock.count - t).toNat)
      | .trim old => decide (2147483648 ≤ (s.clock.count - t).toNat) && (was || decide ((old - t).toNat < 2147483648))
      | .slip => false
    State.countChanged change s = { s with
      deadlines := s.deadlines.map fun e =>
        { e with heldOff := off e.issueTime e.heldOff
                 expired := e.expired ||
                   (!off e.issueTime e.heldOff && decide (e.limit ≤ (s.clock.count - e.issueTime).toNat)) }
      update := match s.update with
        | .posting work post => .posting work { post with deadline := match post.deadline with
            | .join e => .join { e with heldOff := off e.issueTime e.heldOff }
            | other => other }
        | other => other
      lanes := s.lanes.map fun l => { l with monitor := { l.monitor with
        mark := l.monitor.mark || (match l.monitor.latched with
          | none => false
          | some k => decide (l.monitor.interval ≤ (s.clock.count - k.lastStart).toNat)) } }
      sweep := { s.sweep with run := s.sweep.run.map fun r => { r with heldOff := off r.start r.heldOff } } }) ∧
  (∀ s : State, exec .tick s =
    .next (State.countChanged .tick { s with clock := { s.clock with count := s.clock.count + 1 } })) ∧
  (∀ (s : State) (slot : Nat),
    exec (.deadlineExpire slot) s = .next { s with deadlines := s.deadlines.map fun e =>
      if e.slot = slot ∧ e.heldOff = false ∧ e.limit ≤ (s.clock.count - e.issueTime).toNat then
        { e with expired := true } else e }) ∧
  (∀ (s : State) (l : LaneId),
    exec (.intervalMark l) s = .next (s.setLane l { s.lane l with monitor := { (s.lane l).monitor with
      mark := match (s.lane l).monitor.latched with
        | none => (s.lane l).monitor.mark
        | some k => (s.lane l).monitor.mark ||
            decide ((s.lane l).monitor.interval ≤ (s.clock.count - k.lastStart).toNat) } })) ∧
  (∀ (s : State) (v : Time), s.headRequest = some (.clockSet v) →
    exec .clockSet s = .next
      ({ s.takeRequest with
          clock := { count := s.clock.count, synchronised := s.clock.synchronised, armed := some v } }.answer .ok
        (.clock s.clock.count s.clock.synchronised))) ∧
  (∀ (s : State) (reportOrder unitOrder : List LaneId),
    (s.clock.armed = none → exec (.syncPulse reportOrder unitOrder) s = .next s) ∧
    (∀ v, s.clock.armed = some v → s.clock.synchronised = false →
      exec (.syncPulse reportOrder unitOrder) s =
        .next { s with clock := { count := v, synchronised := true, armed := none } }) ∧
    (∀ v, s.clock.armed = some v → s.clock.synchronised = true → -2 ≤ (s.clock.count - v).toInt →
      (s.clock.count - v).toInt ≤ 2 →
      exec (.syncPulse reportOrder unitOrder) s =
        .next (State.countChanged (.trim s.clock.count)
          { s with clock := { count := v, synchronised := true, armed := none } })))

/-- Every step keeps the law of R127: the deadline list holds exactly one entry for each ISSUED correction, with its epoch
and issue time, and a FREE slot has none pending; so the list holds at most one entry per slot, 1024 in all. The entries
stay in order of deadline, as long as the deadlines lie within half the clock's range of one another (R127 has the order
well defined by their nearness to the count; nothing in the model makes a marked entry leave in time: log entry 2). -/
def Obligations.DeadlineListMirrorsTheCorrections : Prop :=
  (∀ s t : State, DeadlinesMirrored s → step s = .next t → DeadlinesMirrored t) ∧
  (∀ s : State, DeadlinesMirrored s → s.deadlines.length ≤ 1024 ∧ ∀ e ∈ s.deadlines, e.slot < 1024) ∧
  (∀ (s t : State) (base : Time), deadlinesRise base s.deadlines → step s = .next t →
    (∀ e ∈ t.deadlines, deadlineAfter base e < 2147483648) → deadlinesRise base t.deadlines)

/-- SYNC_PULSE judged a slip (R46 to R48, R162): every lane loses its queue, tail reference and held grants, keeps its
state, settings, results and what its monitor latched; lookups lose their reads, every other access and read stays;
CLOCK_SLIP is raised; each held grant but a QUIET one leaves a header of outcome ABANDONED on the symbol port (R81) and an
ABANDONED report, each lane with grants waiting a LANE_FLUSH report; then the tests of every change of the count are made
(R48). The reports, and the units, of different lanes interleave as the operands say, each lane's in its own order (log
entry 9); reports that find the queue full are dropped with REPORT_DROPPED. That all these reports enter in one step, ahead
of the WITHDRAWN reports of the corrections that the slip expires, is the model's inference (log entry 34). The records
and everything else stay. An orphan's ABANDONED report carries no slot and no generation (log entry 31). A running sweep
goes on: its deadline is SWEEP_DEADLINE_EXPIRE's (log entry 18). -/
def Obligations.SlipFlushesEveryLane : Prop :=
  (∀ (s : State) (reportOrder unitOrder : List LaneId) (v : Time),
    s.clock.armed = some v → s.clock.synchronised = true →
    ¬ (-2 ≤ (s.clock.count - v).toInt ∧ (s.clock.count - v).toInt ≤ 2) →
    let told (l : LaneId) : List Report :=
      ((s.lane l).held.filterMap fun h => if h.grant.kind = .quiet then none else some (.burst
        { lane := l, start := h.grant.start, kind := h.grant.kind, tag := h.grant.tag, slot := h.reception.slot
          generation := h.reception.generation, outcome := .abandoned, measured := none, quality := none
          timingLimit := false, powerLimit := false, clipped := false, pre := false, gap := false })) ++
      (if (s.lane l).queue = [] then []
        else [.laneFlush { lane := l, reason := .slip, count := (s.lane l).queue.length }])
    let left (l : LaneId) : List SymbolUnit :=
      (s.lane l).held.filterMap fun h => if h.grant.kind = .quiet then none else some
        { lane := l, start := h.grant.start, tag := h.grant.tag, outcome := .abandoned, count := 0, symbols := [] }
    let reports := interleave reportOrder #v[told 0, told 1, told 2, told 3]
    let units := interleave unitOrder #v[left 0, left 1, left 2, left 3]
    let flushed : State := State.raise .clockSlip { s with
      clock := { count := v, synchronised := true, armed := none }
      lanes := s.lanes.map fun l => { l with queue := [], tail := none, held := [] }
      banks := s.banks.map fun b => { b with
        waiting := b.waiting.filter fun r => match r.who with | .lookup _ _ => false | _ => true
        access := match b.access with
          | .read (some (.lookup _ _)) slot image granted => .read none slot image granted
          | other => other }
      port := s.port ++ units }
    let t := State.countChanged .slip (State.offerAll reports flushed)
    exec (.syncPulse reportOrder unitOrder) s = .next t ∧
    (∃ taken, taken <+: reports ∧ reportsInOrder t = reportsInOrder s ++ taken ∧
      (taken ≠ reports → flagged t .reportDropped ∧ 64 ≤ t.reports.length)) ∧
    State.offerAll reports flushed = { flushed with reports := t.reports, sending := t.sending, alert := t.alert } ∧
    (∀ f, s.sending = some f → t.sending = some f) ∧ flagged t .clockSlip ∧
    (∀ c, c ≠ .clockSlip → c ≠ .reportDropped → (flagged t c ↔ flagged s c)) ∧
    t.alert = { s.alert with flags := t.alert.flags } ∧ (∀ n, t.record n = s.record n) ∧
    (∀ l, reports.filter (fun r => decide (reportLane r = some l)) = told l) ∧
    (∀ l, units.filter (fun u => decide (u.lane = l)) = left l) ∧
    (∀ r ∈ reports, reportLane r ≠ none)) ∧
  (∀ (α : Type) (v : Vector (List α) 4),
    interleave [] v = v[0] ++ v[1] ++ v[2] ++ v[3] ∧
    (∀ (l : LaneId) (order : List LaneId), v[l] = [] → interleave (l :: order) v = interleave order v) ∧
    (∀ (l : LaneId) (order : List LaneId) (x : α) (more : List α), v[l] = x :: more →
      interleave (l :: order) v = x :: interleave order (v.set l more)))

/-! ### Grant intake -/

/-- GRANT_NOTICE: the checks of R51 in their order; the first that fails gives the reason of the GRANT_REFUSED report
and raises GRANT_REFUSED (R52); a notice that passes all joins its lane's queue and becomes the tail reference. -/
def Obligations.GrantNoticeChecks : Prop :=
  ∀ (s : State) (frame : List Byte),
    let n := decodeNotice frame
    let refused (reason : RefusalReason) : State :=
      (s.raise .grantRefused).offer (.grantRefused
        { lane := n.lane, start := n.start, length := n.length, kind := n.kind
          tag := if n.kind = 0 ∨ n.kind = 4 then none else some n.tag, reason := reason })
    ((frame.length ≠ 10 ∨ 4 ≤ n.lane ∨ 5 ≤ n.kind ∨ n.length < 32 ∨ 4096 < n.length ∨
        (∃ l : LaneId, l.val = n.lane ∧ n.length ≤ (s.lane l).settings.preamble) ∨
        (1 ≤ n.kind ∧ n.kind ≤ 3 ∧ 16384 ≤ n.tag)) →
      exec (.grantNotice frame) s = .next (refused .badNotice)) ∧
    (∀ (l : LaneId) (kind : GrantKind), frame.length = 10 → l.val = n.lane → kind.code = n.kind →
      32 ≤ n.length → n.length ≤ 4096 → (s.lane l).settings.preamble < n.length →
      (1 ≤ n.kind → n.kind ≤ 3 → n.tag < 16384) →
      exec (.grantNotice frame) s = .next
        (if s.clock.synchronised = false then refused .unsync
          else if (s.lane l).mode = .off then refused .laneOff
          else if 2147483648 ≤ (n.start - (s.clock.count + BitVec.ofNat 32 (s.lane l).settings.lookahead)).toNat then
            refused .late
          else if 4194304 < (n.start - s.clock.count).toNat then refused .far
          else if ∃ t, (s.lane l).tail = some t ∧ 2147483648 ≤ (s.clock.count - t.finish).toNat ∧
              2147483648 ≤ (n.start - t.start).toNat then refused .order
          else if ∃ t, (s.lane l).tail = some t ∧ 2147483648 ≤ (s.clock.count - t.finish).toNat ∧
              2147483648 ≤ (n.start - t.finish).toNat then refused .overlap
          else if 32 ≤ (s.lane l).queue.length then refused .full
          else s.setLane l { s.lane l with
            queue := (s.lane l).queue ++ [{ start := n.start, length := n.length, kind := kind
                                            tag := if n.kind = 0 ∨ n.kind = 4 then none else some n.tag }]
            tail := some { start := n.start
                           finish := n.start + BitVec.ofNat 32 (n.length * (s.lane l).settings.rate.ticks) } }))

/-- GRANT_HANDOVER: a due head that meets room leaves the queue; with its start come it is refused LATE (R56); otherwise
it becomes the next grant (R55): OPEN and QUIET without a lookup (R67), an unmapped tag as an orphan with profile 0's
track window and ORPHAN_GRANT, a mapped one with a read of the slot found requested (R68). Whether the head is due is read
from the count as it stands, also after a backward trim (log entry 30). -/
def Obligations.HandoverOfADueHead : Prop :=
  ∀ (s : State) (l : LaneId),
    ((s.lane l).queue = [] ∨ 2 ≤ (s.lane l).held.length → exec (.grantHandover l) s = .next s) ∧
    ∀ (g : Grant) (rest : List Grant), (s.lane l).queue = g :: rest →
      let held (r : Reception) : State :=
        s.setLane l { s.lane l with queue := rest, held := (s.lane l).held ++ [{ grant := g, reception := r }] }
      (2147483648 ≤ (s.clock.count - (g.start - BitVec.ofNat 32 (s.lane l).settings.lookahead)).toNat →
        exec (.grantHandover l) s = .next s) ∧
      ((s.lane l).held.length < 2 →
        (s.clock.count - (g.start - BitVec.ofNat 32 (s.lane l).settings.lookahead)).toNat < 2147483648 →
        ((s.clock.count - g.start).toNat < 2147483648 →
          exec (.grantHandover l) s = .next
            (((s.setLane l { s.lane l with queue := rest }).raise .grantRefused).offer (.grantRefused
              { lane := l.val, start := g.start, length := g.length, kind := g.kind.code, tag := g.tag
                reason := .late }))) ∧
        (2147483648 ≤ (s.clock.count - g.start).toNat →
          (g.kind = .opened → exec (.grantHandover l) s = .next (held .newcomer)) ∧
          (g.kind = .quiet → exec (.grantHandover l) s = .next (held .quietWaiting)) ∧
          (g.kind ≠ .opened → g.kind ≠ .quiet →
            ((∀ tag, g.tag = some tag → tagFind s.tagMap tag = none) →
              exec (.grantHandover l) s = .next ((held (.orphan (s.profile 0).trackWindow)).raise .orphanGrant)) ∧
            (∀ tag slot, g.tag = some tag → tagFind s.tagMap tag = some slot →
              exec (.grantHandover l) s = .next
                (State.requestRead (.lookup l g.start) slot (held (.looking slot)))))))

/-! ### Receive lanes -/

/-- A lookup's read completes (LOOKUP_READ_COMPLETE, or BANK_READ_COMPLETE of the same bank): before the count passes G
the lane judges the image: a tag not in its list makes an orphan (R69), another home lane a mismatch, anything else a
station burst with the centre shift of R71, the half-width of R72 and the starting taps of R77. WINDOW_OPEN: the count
has reached G first; the read is withdrawn and the burst is LOOKUP_LATE with profile 0's window of R70. A read that
completes when the count has passed G makes the same LOOKUP_LATE burst (log entry 20). Orphan, mismatch, LOOKUP_LATE and
OPEN bursts start from the identity set (R67 to R70, R77). That LOOKUP_READ_COMPLETE does what BANK_READ_COMPLETE does on
the same read, and the acquisition window for an image that is FREE, are the model's inferences (log entries 23 and 25). -/
def Obligations.LookupFixesReception : Prop :=
  (∀ (slot w : Nat) (g : Generation) (shift : Int) (taps : TapSet),
    Reception.startingSet (.station slot g shift w taps) = some taps ∧
    Reception.startingSet (.orphan w) = some identityTaps ∧ Reception.startingSet (.mismatch slot g w) = some identityTaps ∧
    Reception.startingSet (.late slot w) = some identityTaps ∧ Reception.startingSet .newcomer = some identityTaps ∧
    identityTaps = { t0 := ⟨0, 0⟩, t1 := ⟨0, 0⟩, t2 := ⟨16384, 0⟩, t3 := ⟨0, 0⟩, t4 := ⟨0, 0⟩, t5 := ⟨0, 0⟩,
                     t6 := ⟨0, 0⟩, t7 := ⟨0, 0⟩ }) ∧
  (∀ (s : State) (k : BankId) (l : LaneId) (start granted : Time) (slot : Nat) (image : Record) (h : Held),
    (s.bank k).access = .read (some (.lookup l start)) slot image granted → (s.lane l).lookingAt start = some h →
    let settle := (s.profile image.profile).settle
    let late := (s.clock.count - start).toNat < 2147483648 ∧ s.clock.count ≠ start
    let shift : Int := match image.pending with
      | none => 0
      | some c => match c.state with
        | .issued => c.timingDelta
        | .delivered d => if 2147483648 ≤ (h.grant.start - (d + BitVec.ofNat 32 settle)).toNat then c.timingDelta else 0
    let taps := match image.pending with
      | none => image.taps
      | some c => match c.state with
        | .issued => image.taps
        | .delivered d =>
          if (h.grant.start - (d + BitVec.ofNat 32 settle)).toNat < 2147483648 ∧ c.taps ≠ none then identityTaps
          else image.taps
    let half := if h.grant.kind = .acq ∨ image.state ≠ .track then (s.profile image.profile).acquisitionWindow
      else (s.profile image.profile).trackWindow
    let received (r : Reception) : State := (s.freeBank k).setLane l ((s.lane l).receive start r)
    exec (.lookupReadComplete k) s = exec (.bankReadComplete k) s ∧
    (¬ late → (∀ tag, h.grant.tag = some tag → tag ∉ image.tags) →
      exec (.lookupReadComplete k) s = .next ((received (.orphan (s.profile 0).trackWindow)).raise .orphanGrant)) ∧
    (∀ tag, ¬ late → h.grant.tag = some tag → tag ∈ image.tags → image.homeLane ≠ l →
      exec (.lookupReadComplete k) s = .next
        ((received (.mismatch slot image.generation (s.profile 0).trackWindow)).raise .orphanGrant)) ∧
    (∀ tag, ¬ late → h.grant.tag = some tag → tag ∈ image.tags → image.homeLane = l →
      exec (.lookupReadComplete k) s = .next (received (.station slot image.generation shift half taps))) ∧
    (late → exec (.lookupReadComplete k) s = .next (received (.late slot
      (if h.grant.kind = .acq then (s.profile 0).acquisitionWindow else (s.profile 0).trackWindow))))) ∧
  (∀ (s : State) (l : LaneId) (h : Held) (slot : Nat),
    (s.lane l).held.find? (Held.windowOpens s.clock.count) = some h → h.reception = .looking slot →
    exec (.windowOpen l) s = .next
      (State.withdrawReads (fun who => decide (who = .lookup l h.grant.start))
        (s.setLane l ((s.lane l).receive h.grant.start (.late slot
          (if h.grant.kind = .acq then (s.profile 0).acquisitionWindow else (s.profile 0).trackWindow))))))

/-- BURST_COMPLETE, over the span of R72 and R73 and at or after the completion time of R73: the strongest peak of the
span, the earlier of equals, is the arrival (R74); the burst is detected when its saturated level is the margin or more
above the effective floor (R75); a detected OPEN burst with a second peak is a CLASH (R76); a detected burst carries its
saturated measurements and trained set (R78, R79); the outcome follows the table of R80; the unit is emitted (R81) and
the result offered (R82, R83). What the samples show enters as an operand (log entries 7 and 8). -/
def Obligations.BurstCompletionGivesOutcome : Prop :=
  (∀ (lane : Lane) (slot w : Nat) (g : Generation) (shift : Int) (taps : TapSet),
    lane.spanOf (.orphan w) = some (-(w : Int), (w : Int)) ∧ lane.spanOf (.mismatch slot g w) = some (-(w : Int), (w : Int)) ∧
    lane.spanOf (.late slot w) = some (-(w : Int), (w : Int)) ∧
    lane.spanOf (.station slot g shift w taps) = some (shift - w, shift + w) ∧
    lane.spanOf .newcomer = some (0, (lane.settings.openWindow : Int))) ∧
  ∀ (s : State) (l : LaneId) (x : Samples) (h : Held) (rest : List Held) (lo hi : Int),
    (s.lane l).held = h :: rest → (s.lane l).spanOf h.reception = some (lo, hi) →
    (s.clock.count - (h.grant.start + BitVec.ofNat 32 (h.grant.length * (s.lane l).settings.rate.ticks) +
      BitVec.ofNat 32 ((hi.toNat + 31) / 32))).toNat < 2147483648 →
    let floor := match (s.lane l).monitor.latched with
      | none => (s.lane l).settings.defaultFloor
      | some k => k.level
    let level := clamp x.power (-128) 127
    let placed := match h.reception with
      | .orphan _ => BurstOutcome.orphan
      | .mismatch _ _ _ => .mismatch
      | .late _ _ => .lookupLate
      | _ => .clean
    let unheard : Heard :=
      { outcome := if placed = .clean then .missed else placed, measured := none, trained := none, clipped := false }
    let done (y : Heard) : State :=
      let count := if y.measured.isSome = true ∧ h.grant.kind ≠ .opened then
        h.grant.length - (s.lane l).settings.preamble else 0
      let u := (s.setLane l { s.lane l with held := rest }).emit
        { lane := l, start := h.grant.start, tag := h.grant.tag, outcome := y.outcome, count := count
          symbols := x.symbols.take count }
      if (s.lane l).holder.length < 2 then
        u.setLane l { s.lane l with
          held := rest
          holder := (s.lane l).holder ++ [{ lane := l, start := h.grant.start, kind := h.grant.kind, tag := h.grant.tag
                                            slot := h.reception.slot, generation := h.reception.generation
                                            outcome := y.outcome, measured := y.measured, trained := y.trained
                                            clipped := y.clipped }] }
      else (u.raise .resultUnprocessed).offer (.burst
        { lane := l, start := h.grant.start, kind := h.grant.kind, tag := h.grant.tag, slot := h.reception.slot
          generation := h.reception.generation, outcome := .unprocessed, measured := none, quality := none
          timingLimit := false, powerLimit := false, clipped := false, pre := false, gap := false })
    ((∀ p ∈ x.peaks, ¬ (lo ≤ p.offset ∧ p.offset ≤ hi)) → exec (.burstComplete l x) s = .next (done unheard)) ∧
    (∀ best ∈ x.peaks, lo ≤ best.offset → best.offset ≤ hi →
      (∀ p ∈ x.peaks, lo ≤ p.offset → p.offset ≤ hi →
        p.level < best.level ∨ (p.level = best.level ∧ best.offset ≤ p.offset)) →
      (level - floor < (s.lane l).settings.margin → exec (.burstComplete l x) s = .next (done unheard)) ∧
      (((s.lane l).settings.margin : Int) ≤ level - floor →
        (h.reception = .newcomer ∧ (∃ p ∈ x.peaks, lo ≤ p.offset ∧ p.offset ≤ hi ∧ best.level - 24 ≤ p.level ∧
            (s.lane l).settings.rate.subticks < (p.offset - best.offset).natAbs) →
          exec (.burstComplete l x) s = .next
            (done { outcome := .clash, measured := none, trained := none, clipped := false })) ∧
        (¬ (h.reception = .newcomer ∧ (∃ p ∈ x.peaks, lo ≤ p.offset ∧ p.offset ≤ hi ∧ best.level - 24 ≤ p.level ∧
            (s.lane l).settings.rate.subticks < (p.offset - best.offset).natAbs)) →
          exec (.burstComplete l x) s = .next
            (done { outcome := placed
                    measured := some { error := best.offset, power := level, freq := clamp x.freq (-32767) 32767
                                       mer := clamp x.mer 0 200 }
                    trained := some (saturateTaps x.trained)
                    clipped := decide (x.power < -128 ∨ 127 < x.power) }))))

/-- QUIET_START: the QUIET grant whose start has come is measured when the mode is EVERY, or PERIODIC with the monitor
unmeasured or its mark set, and passed over otherwise (R154). QUIET_GRANT_DONE: a passed-over grant that is the one being
received is done at its end, and the next grant becomes the one being received (R54). Nothing else changes.
SYMBOL_UNIT_EMITTED: the unit in emission has left, and the unit that waited longest follows it (R81). -/
def Obligations.QuietGrantsAndSymbolUnitsComplete : Prop :=
  ((∀ (s : State) (l : LaneId) (before after : List Held) (h : Held),
    (s.lane l).held = before ++ h :: after →
    (∀ x ∈ before, ¬ (x.reception = .quietWaiting ∧ (s.clock.count - x.grant.start).toNat < 2147483648)) →
    h.reception = .quietWaiting → (s.clock.count - h.grant.start).toNat < 2147483648 →
    exec (.quietStart l) s = .next (s.setLane l { s.lane l with
      held := before ++ { h with reception :=
        if (s.lane l).monitor.mode = .every ∨ ((s.lane l).monitor.mode = .periodic ∧
            ((s.lane l).monitor.latched = none ∨ (s.lane l).monitor.mark = true)) then .quietMeasuring
        else .quietPassed } :: after })) ∧
  (∀ (s : State) (l : LaneId) (h : Held) (rest : List Held),
    (s.lane l).held = h :: rest → h.reception = .quietPassed →
    (s.clock.count - (h.grant.start + BitVec.ofNat 32 (h.grant.length * (s.lane l).settings.rate.ticks))).toNat
      < 2147483648 →
    exec (.quietGrantDone l) s = .next (s.setLane l { s.lane l with held := rest }))) ∧
  (∀ (s : State), (s.port = [] → exec .symbolUnitEmitted s = .next s) ∧
    ∀ u rest, s.port = u :: rest → exec .symbolUnitEmitted s = .next { s with port := rest })

/-- NOISE_LATCH: at the measured grant's end the saturated level, its grade and the grant's start are latched and the
mark cleared (R157); the consecutive count and the lane's state move by the table of R159, raising STORM_ENTER or
STORM_LEAVE; the NOISE report shows the result (R158). -/
def Obligations.NoiseLatchMovesTheStorm : Prop :=
  ∀ (s : State) (l : LaneId) (power : Int) (h : Held) (rest : List Held),
    (s.lane l).held = h :: rest → h.reception = .quietMeasuring →
    (s.clock.count - (h.grant.start + BitVec.ofNat 32 (h.grant.length * (s.lane l).settings.rate.ticks))).toNat
      < 2147483648 →
    let level := max (-320) (min 80 power)
    let grade := (max 0 (min 15 ((level + 240) / 16))).toNat
    let latched (mode : LaneMode) (consecutive : Nat) : State :=
      s.setLane l { s.lane l with
        mode := mode, held := rest
        monitor := { (s.lane l).monitor with
          latched := some { level := level, saturated := decide (power < -320 ∨ 80 < power), grade := grade
                            lastStart := h.grant.start }
          mark := false, consecutive := consecutive } }
    let told (mode : LaneMode) (consecutive : Nat) (change : StormTransition) (t : State) : State :=
      t.offer (.noise { lane := l, start := h.grant.start, level := level
                        saturated := decide (power < -320 ∨ 80 < power), grade := grade, consecutive := consecutive
                        mode := mode, transition := change })
    let n := (s.lane l).monitor.consecutive
    ((s.lane l).mode = .run →
      (grade = 15 → 3 ≤ n →
        exec (.noiseLatch l power) s = .next (told .storm 4 .entered ((latched .storm 4).raise .stormEnter))) ∧
      (grade = 15 → n < 3 → exec (.noiseLatch l power) s = .next (told .run (n + 1) .none (latched .run (n + 1)))) ∧
      (grade < 15 → exec (.noiseLatch l power) s = .next (told .run 0 .none (latched .run 0)))) ∧
    ((s.lane l).mode = .storm →
      (grade = 15 → exec (.noiseLatch l power) s =
        .next (told .storm (min 4 (n + 1)) .none (latched .storm (min 4 (n + 1))))) ∧
      (grade = 14 → exec (.noiseLatch l power) s = .next (told .storm 0 .none (latched .storm 0))) ∧
      (grade < 14 → exec (.noiseLatch l power) s =
        .next (told .run 0 .left ((latched .run 0).raise .stormLeave)))) ∧
    grade ≤ 15

/-! ### The station table store -/

/-- BANK_READ_COMPLETE: the bank falls free and its arbiter chooses again (R28, R30), unless a waiting post is about to
take a freed entry (log entry 12); the record read goes to the requester that asked for it, which goes on with its work
(R36, R39), and a withdrawn read's record to nobody (R32). With no read in progress nothing happens. -/
def Obligations.BankReadServesItsRequester : Prop :=
  ∀ (s : State) (k : BankId),
    s.freeBank k = s.setBank k
      (if s.postWaits k = true ∧ (s.bank k).queue.length < 2 then { s.bank k with access := .idle }
        else Bank.grant s.clock.count { s.bank k with access := .idle }) ∧
    ((∀ who slot image granted, (s.bank k).access ≠ .read who slot image granted) →
      exec (.bankReadComplete k) s = .next s) ∧
    ∀ (slot : Nat) (image : Record) (granted : Time),
      ((s.bank k).access = .read none slot image granted → exec (.bankReadComplete k) s = .next (s.freeBank k)) ∧
      (∀ r, (s.bank k).access = .read (some .update) slot image granted → s.update = .reading slot r →
        exec (.bankReadComplete k) s = .next { s.freeBank k with update := .ready slot r image }) ∧
      (∀ q, (s.bank k).access = .read (some .command) slot image granted → s.command = .reading slot q →
        exec (.bankReadComplete k) s = .next { s.freeBank k with command := .ready slot q image }) ∧
      (∀ e, (s.bank k).access = .read (some .timer) slot image granted → s.timer = .reading slot e →
        exec (.bankReadComplete k) s = .next { s.freeBank k with timer := .ready slot e image })

/-- DRAIN: the oldest posted image stands in the array at its slot and has left the queue (R35), no read of any slot can
tell (R36), and the bank falls free, as BankReadServesItsRequester states it (R30, R34). With no drain in progress nothing
happens (log entry 1). -/
def Obligations.DrainKeepsEveryRecord : Prop :=
  (∀ (s : State) (k : BankId), (s.bank k).access ≠ .drain → exec (.drain k) s = .next s) ∧
  (∀ (s : State) (k : BankId) (p : Posted) (rest : List Posted),
    (s.bank k).access = .drain → (s.bank k).queue = p :: rest →
    exec (.drain k) s = .next ((s.setBank k
      { s.bank k with array := tableWrite p.slot p.image (s.bank k).array, queue := rest }).freeBank k)) ∧
  ∀ (s : State) (k : BankId) (p : Posted) (rest : List Posted),
    tableWf (s.bank k).array = true → (s.bank k).access = .drain → (s.bank k).queue = p :: rest →
    ∃ t, exec (.drain k) s = .next t ∧ (∀ n, t.record n = s.record n) ∧ (t.bank k).queue = rest ∧
      (∀ n, tableRead (t.bank k).array n = if n = p.slot then p.image else tableRead (s.bank k).array n) ∧
      tableWf (t.bank k).array = true ∧ (∀ j, j ≠ k → t.bank j = s.bank j) ∧ t = { s with banks := t.banks }

/-- POST_TAKES_ENTRY: a freed entry goes to one waiting post of that bank, the update engine's before the command
engine's before the timer's, and the writer's hold is released with it (R34, R39); a post that came since the drain takes
its part in that order (log entry 12). HOLD_TAKEN: a free hold goes to one waiting writer, the command engine before the
update engine before the timer, which asks for its read (R40); a writer that came since the release waits and takes its
part in that order too (log entry 13). -/
def Obligations.FreedEntryAndHoldGoInOrder : Prop :=
  (∀ (s : State) (k : BankId),
    let waits (post : Option Post) : Prop := ∃ p, post = some p ∧ bankOf p.slot = k
    (2 ≤ (s.bank k).queue.length → exec (.postTakesEntry k) s = .next s) ∧
    ((s.bank k).queue.length < 2 →
      (∀ r p, s.update = .posting r p → bankOf p.slot = k →
        exec (.postTakesEntry k) s = .next (State.applyPost p { s with update := .idle })) ∧
      (∀ q p, ¬ waits (waitingPost s.update) → s.command = .posting q p → bankOf p.slot = k →
        exec (.postTakesEntry k) s =
          .next (State.commandPosted q p.slot (State.applyPost p { s with command := .idle }))) ∧
      (∀ e p, ¬ waits (waitingPost s.update) → ¬ waits (waitingPost s.command) → s.timer = .posting e p →
        bankOf p.slot = k →
        exec (.postTakesEntry k) s = .next (State.applyPost p { s with timer := .idle })))) ∧
  (∀ (s : State) (slot : Nat),
    (s.holder slot ≠ none → exec (.holdTaken slot) s = .next s) ∧
    (s.holder slot = none →
      (∀ q, s.command = .waiting slot q →
        exec (.holdTaken slot) s = .next (State.requestRead .command slot { s with command := .reading slot q })) ∧
      (∀ r, s.command.awaitedSlot ≠ some slot → s.update = .waiting slot r →
        exec (.holdTaken slot) s = .next (State.requestRead .update slot { s with update := .reading slot r })) ∧
      (∀ e, s.command.awaitedSlot ≠ some slot → s.update.awaitedSlot ≠ some slot → s.timer = .waiting slot e →
        exec (.holdTaken slot) s = .next (State.requestRead .timer slot { s with timer := .reading slot e }))))

/-- The arbiter's choice at a free bank (R30, R31, R35, R36): among the waiting reads one that no other precedes, by
class and among lookups by grant start and lane; a sweep's read is held back by a full queue, which drains; without a
read the oldest entry drains; without either the bank stays idle. The image returned is the newest posted one as it
stands at the grant. Lookups' starts must lie within half the clock's range of each other for the order to be one (log
entry 35).
A read that is asked for joins its slot's bank's waiting reads, and an idle bank grants at once (R29, R30), but for one that
a waiting post is about to use (log entry 12). -/
def Obligations.ArbiterGrantsInClassOrder : Prop :=
  (∀ (s : State) (who : Requester) (slot : Nat),
    let b := s.bank (bankOf slot)
    let asked : Bank := { b with waiting := b.waiting ++ [{ who := who, slot := slot }] }
    State.requestRead who slot s = s.setBank (bankOf slot)
      (if b.access = .idle ∧ ¬ (s.postWaits (bankOf slot) = true ∧ b.queue.length < 2) then asked.grant s.clock.count
        else asked)) ∧
  (∀ x y : Requester, x.precedes y = true ↔
    (match x, y with
      | .lookup l g, .lookup l' g' => (g = g' ∧ l < l') ∨ (g ≠ g' ∧ (g' - g).toNat < 2147483648)
      | _, _ => x.rank < y.rank)) ∧
  ∀ (b : Bank) (now base : Time),
    (∀ r ∈ b.waiting, ∀ l g, r.who = .lookup l g → (g - base).toNat < 2147483648) →
    (b.waiting = [] → b.queue = [] → b.grant now = b) ∧
    (b.waiting = [] → b.queue ≠ [] → b.grant now = { b with access := .drain }) ∧
    (b.waiting ≠ [] → ∃ r ∈ b.waiting, (∀ x ∈ b.waiting, x.who.precedes r.who = false) ∧
      b.grant now =
        (if r.who = .sweep ∧ 2 ≤ b.queue.length then { b with access := .drain }
          else { b with
            access := .read (some r.who) r.slot
              (match b.queue.reverse.find? (fun p => decide (p.slot = r.slot)) with
                | some p => p.image
                | none => tableRead b.array r.slot) now
            waiting := b.waiting.erase r }))

/-- A post makes its image the slot's record for every later read and no other slot's (R33), its tags the slot's in the
map (R12), its deadline change and its use counts with it (R26, R127). A writer whose post finds an entry free, with no
post waiting, posts and releases its hold; otherwise it keeps the hold and waits (R34, R39). That a post which finds an
entry free waits behind one that waits already, and that a tag of the image mapped to another slot is taken from it, are
the model's inferences (log entries 12 and 27), and so is that a post takes a free entry at once although a read has taken
the bank since the drain that freed it (log entry 33). The place of a joining entry among deadlines that lie 2^31 or more
apart is the model's choice (log entry 35); nearer ones have R127's order. -/
def Obligations.PostMakesTheRecord : Prop :=
  (∀ (s : State) (p : Post),
    let t := s.applyPost p
    t.record p.slot = p.image ∧ (∀ n, n ≠ p.slot → t.record n = s.record n) ∧
    (t.bank (bankOf p.slot)).queue = (s.bank (bankOf p.slot)).queue ++ [{ slot := p.slot, image := p.image }] ∧
    (∀ k, k ≠ bankOf p.slot → t.bank k = s.bank k) ∧
    (tagMapWf s.tagMap = true → tagMapWf t.tagMap = true ∧ ∀ tag, tagFind t.tagMap tag =
      if tag ∈ p.image.tags then some p.slot
      else if tagFind s.tagMap tag = some p.slot then none else tagFind s.tagMap tag) ∧
    (p.deadline = .keep → t.deadlines = s.deadlines) ∧
    (∀ n, p.deadline = .leave n → t.deadlines = s.deadlines.filter fun e => decide (e.slot ≠ n)) ∧
    (∀ e, p.deadline = .join e → ∃ before after,
      s.deadlines = before ++ after ∧
      t.deadlines = before ++ { e with expired := e.expired ||
        (!e.heldOff && decide (e.limit ≤ (s.clock.count - e.issueTime).toNat)) } :: after ∧
      (∀ x ∈ before, ((e.issueTime + BitVec.ofNat 32 e.limit) - (x.issueTime + BitVec.ofNat 32 x.limit)).toNat
        < 2147483648) ∧
      (∀ x ∈ after.head?, 2147483648 ≤
        ((e.issueTime + BitVec.ofNat 32 e.limit) - (x.issueTime + BitVec.ofNat 32 x.limit)).toNat)) ∧
    (∀ x, (t.profileEntry x).fields = (s.profileEntry x).fields ∧ (t.profileEntry x).useCount =
      (s.profileEntry x).useCount - (if p.released = some x then 1 else 0) + (if p.taken = some x then 1 else 0)) ∧
    t = { s with banks := t.banks, tagMap := t.tagMap, deadlines := t.deadlines, profiles := t.profiles }) ∧
  (∀ (s : State) (r : BurstResult) (q : Request) (e : DeadlineEntry) (p : Post),
    ((s.bank (bankOf p.slot)).queue.length < 2 → s.postWaits (bankOf p.slot) = false →
      s.updatePosts r p = State.applyPost p { s with update := .idle } ∧
      s.timerPosts e p = State.applyPost p { s with timer := .idle } ∧
      (q ≠ .clearAll →
        s.commandPosts q p = (State.applyPost p { s with command := .idle }).answer .ok .empty) ∧
      (q = .clearAll → p.slot + 1 < 1024 →
        s.commandPosts q p = { State.applyPost p { s with command := .idle } with
          command := .atSlot (p.slot + 1) .clearAll }) ∧
      (q = .clearAll → 1024 ≤ p.slot + 1 →
        s.commandPosts q p =
          ((State.applyPost p { s with command := .idle }).offer (.state
            { slot := none, old := none, new := .free, reason := .cleared, gap := false })).answer .ok .empty)) ∧
    (2 ≤ (s.bank (bankOf p.slot)).queue.length ∨ s.postWaits (bankOf p.slot) = true →
      s.updatePosts r p = { s with update := .posting r p } ∧ s.timerPosts e p = { s with timer := .posting e p } ∧
      s.commandPosts q p = { s with command := .posting q p }))

/-! ### The update engine -/

/-- UPDATE_TAKE_RESULT: the free engine takes the head of the earliest start, the lowest lane among equals (R84); a CLEAN
or MISSED result of a named kind goes for its slot's hold (R87); any other is finished with the report of R85. That the
NEWCOMER report carries no CLIPPED flag is the model's inference (log entry 32). Which head is taken when the heads' starts
have no earliest one modulo 2^32 is the model's choice and is not stated here (log entry 35). -/
def Obligations.UpdateEngineTakesEarliestResult : Prop :=
  (∀ s : State, (s.update ≠ .idle ∨ ∀ l, (s.lane l).holder = []) → exec .updateTakeResult s = .next s) ∧
  ∀ (s : State) (l : LaneId) (r : BurstResult) (rest : List BurstResult),
    s.update = .idle → (s.lane l).holder = r :: rest →
    (∀ (l' : LaneId) r', (s.lane l').holder.head? = some r' →
      (r'.start = r.start ∧ l ≤ l') ∨ (r'.start ≠ r.start ∧ (r'.start - r.start).toNat < 2147483648)) →
    let t := s.setLane l { s.lane l with holder := rest }
    let burst : Report := .burst
      { lane := r.lane, start := r.start, kind := r.kind, tag := r.tag, slot := r.slot, generation := r.generation
        outcome := r.outcome, measured := r.measured, quality := r.measured.map fun m => qualityOf m.mer
        timingLimit := false, powerLimit := false, clipped := r.clipped, pre := false, gap := false }
    (∀ slot, r.kind ≠ .opened → (r.outcome = .clean ∨ r.outcome = .missed) → r.slot = some slot →
      exec .updateTakeResult s = .next (t.updateAcquires slot r)) ∧
    (r.kind ≠ .opened → r.outcome ≠ .clean → r.outcome ≠ .missed →
      exec .updateTakeResult s = .next (t.offer burst)) ∧
    (∀ m, r.kind = .opened → r.outcome = .clean → r.measured = some m →
      exec .updateTakeResult s = .next
        ((t.raise .newcomerSeen).offer (.newcomer { lane := r.lane, start := r.start, measured := m }))) ∧
    (r.kind = .opened → r.outcome = .missed → exec .updateTakeResult s = .next t) ∧
    (r.kind = .opened → r.outcome = .clash → exec .updateTakeResult s = .next (t.offer burst))

/-- UPDATE_PROCESS of a result whose slot is FREE or of another generation: it is STALE, the hold is released, no record,
tag, deadline or use count changes, and the STALE report carries what the result carried (R88).
UPDATE_PROCESS of a MISSED result that is not STALE (R89, R105, R107): no arithmetic, the counting of the state as
read, the BURST report with PRE for a pre-correction burst, the STATE report of a change of state with STATION_LOST on
entry into LOST (R122, R123), and the post of the image with its counts and gap flag. -/
def Obligations.StaleAndMissedResults : Prop :=
  (∀ (s : State) (slot : Nat) (r : BurstResult) (image : Record), s.update = .ready slot r image →
    (image.state = .free ∨ r.generation ≠ some image.generation) →
    ∃ t, exec .updateProcess s = .next t ∧
      t = State.offer (.burst
        { lane := r.lane, start := r.start, kind := r.kind, tag := r.tag, slot := r.slot, generation := r.generation
          outcome := .stale, measured := r.measured, quality := r.measured.map fun m => qualityOf m.mer
          timingLimit := false, powerLimit := false, clipped := r.clipped, pre := false, gap := false })
        { s with update := .idle } ∧
      (∀ n, t.record n = s.record n) ∧ t.tagMap = s.tagMap ∧ t.deadlines = s.deadlines ∧ t.profiles = s.profiles ∧
      t.update = .idle) ∧
  (∀ (s : State) (slot : Nat) (r : BurstResult) (image : Record), s.update = .ready slot r image →
    image.state ≠ .free → r.generation = some image.generation → r.outcome = .missed → r.measured = none →
    let p := s.profile image.profile
    let c := count p image (decide ((s.lane r.lane).mode = .storm)) none
    let pre := match image.pending with
      | none => false
      | some x => match x.state with
        | .issued => true
        | .delivered d => decide (2147483648 ≤ (r.start - (d + BitVec.ofNat 32 p.settle)).toNat)
    let told := State.offerHeld (fun gap => .burst
      { lane := r.lane, start := r.start, kind := r.kind, tag := r.tag, slot := r.slot, generation := r.generation
        outcome := .missed, measured := none, quality := none, timingLimit := false, powerLimit := false
        clipped := r.clipped, pre := pre, gap := gap }) (s, { owed := image.gap, flag := image.gap })
    let moved := match c.reason with
      | none => told
      | some reason => State.offerHeld (fun gap => .state
          { slot := some slot, old := some image.state, new := c.state, reason := reason, gap := gap })
          (if c.state = StationState.lost then told.1.raise .stationLost else told.1, told.2)
    exec .updateProcess s = .next (State.updatePosts r
      { slot := slot
        image := { image with state := c.state, missCount := c.missCount, alignedCount := c.alignedCount
                              budget := c.budget, gap := moved.2.flag }
        deadline := .keep, released := none, taken := none } moved.1))

/-- UPDATE_PROCESS of a CLEAN result that is not STALE (R90 to R107, R124, R125, R133 to R136): the burst is classified
against the image; a post-correction burst absorbs the correction with its ABSORBED report; quality, last measurement and
smoothed taps are set; a correction called for is issued when its report finds room, with the new totals, the next epoch
and a deadline entry, and is otherwise dropped with the gap flag set; the BURST report follows when R107 calls for it, then
the counting's STATE report, then the post. The quality level is clamp(floor((M - 40) / 8), 0, 15) (R92). -/
def Obligations.CleanResultRefinesTheRecord : Prop :=
  (∀ mer : Int, (qualityOf mer : Int) = max 0 (min 15 ((mer - 40) / 8))) ∧
  ∀ (s : State) (slot : Nat) (r : BurstResult) (image : Record) (m : Measurement) (trained : TapSet),
    s.update = .ready slot r image → image.state ≠ .free → r.generation = some image.generation → r.outcome = .clean →
    r.measured = some m → r.trained = some trained →
    let p := s.profile image.profile
    let cls : BurstClass := match image.pending with
      | none => .ordinary
      | some x => match x.state with
        | .issued => .pre
        | .delivered d =>
          if 2147483648 ≤ (r.start - (d + BitVec.ofNat 32 p.settle)).toNat then .pre else .post
    let from_ : TapSet := match image.pending with
      | some x => if cls = .post ∧ x.taps ≠ none then identityTaps else image.taps
      | none => image.taps
    let taps := from_.zip (smooth p.smoothing) trained
    let live := image.state = .acquire ∨ image.state = .track
    let timing := if live ∧ cls ≠ .pre then timingStep p image m.error else Step.skipped image.timing
    let power := if live then powerStep p image m.power else Step.skipped image.power
    let freq := if live then freqStep p image m.freq else Step.skipped image.freq
    let sendTaps := image.state = .track ∧ cls ≠ .pre ∧ p.tapThreshold ≤ tapRatio taps
    let storm := (s.lane r.lane).mode = .storm
    let calls := cls ≠ .pre ∧ live ∧ ¬ storm ∧
      (timing.delta ≠ 0 ∨ power.delta ≠ 0 ∨ freq.delta ≠ 0 ∨ sendTaps)
    let absorbed := match image.pending with
      | some x =>
        if cls = .post then State.offerHeld (fun gap => .absorbed
          { slot := slot, generation := image.generation, epoch := x.epoch, start := r.start
            tapReset := x.taps.isSome, gap := gap }) (s, { owed := image.gap, flag := image.gap })
        else (s, { owed := image.gap, flag := image.gap })
      | none => (s, { owed := image.gap, flag := image.gap })
    let issued := calls ∧ absorbed.1.reports.length < 64
    let correction : Correction :=
      { epoch := image.nextEpoch, state := .issued, issueTime := s.clock.count, timingDelta := timing.delta
        powerDelta := power.delta, freqDelta := freq.delta, taps := if sendTaps then some taps else none }
    let issue := if issued then State.offerHeld (fun gap => .correction
        { slot := slot, generation := image.generation, epoch := image.nextEpoch, issueTime := s.clock.count
          tag := image.tags.head?, timingDelta := timing.delta, powerDelta := power.delta, freqDelta := freq.delta
          taps := if sendTaps then some taps else none, gap := gap }) absorbed
      else if calls then (absorbed.1.raise .reportDropped, { absorbed.2 with flag := true }) else absorbed
    let c := count p image (decide storm) (some m)
    let told := if r.kind ≠ .data ∨ issued ∨ c.reason ≠ none then State.offerHeld (fun gap => .burst
        { lane := r.lane, start := r.start, kind := r.kind, tag := r.tag, slot := r.slot, generation := r.generation
          outcome := .clean, measured := some m, quality := some (qualityOf m.mer), timingLimit := timing.limit
          powerLimit := power.limit, clipped := r.clipped, pre := decide (cls = .pre), gap := gap }) issue
      else issue
    let moved := match c.reason with
      | none => told
      | some reason => State.offerHeld (fun gap => .state
          { slot := some slot, old := some image.state, new := c.state, reason := reason, gap := gap })
          (if c.state = StationState.lost then told.1.raise .stationLost else told.1, told.2)
    exec .updateProcess s = .next (State.updatePosts r
      { slot := slot
        image :=
          { state := c.state, generation := image.generation, homeLane := image.homeLane, profile := image.profile
            tags := image.tags
            timing := if issued then timing.value else image.timing
            power := if issued then power.value else image.power
            freq := if issued then freq.value else image.freq
            taps := taps, quality := some (qualityOf m.mer), last := some { values := m, start := r.start }
            missCount := c.missCount, alignedCount := c.alignedCount, budget := c.budget
            pending := if issued then some correction else if cls = .post then none else image.pending
            nextEpoch := if issued then image.nextEpoch + 1 else image.nextEpoch
            lastWithdrawn := image.lastWithdrawn, gap := moved.2.flag }
        deadline := if issued then .join { slot := slot, epoch := image.nextEpoch, issueTime := s.clock.count
                                           limit := p.deliveryLimit, expired := false, heldOff := false } else .keep
        released := none, taken := none } moved.1)

/-- The smoothing of R98 keeps every component between its value before and the trained value, and so in range: the
rounded quotient has the sign of the difference or is 0, and is no larger. -/
def Obligations.SmoothedTapsStayBetween : Prop :=
  (∀ (m : Nat) (w c : Int), min w c ≤ smooth m w c ∧ smooth m w c ≤ max w c ∧
    (0 ≤ c - w → 0 ≤ roundShift (c - w) m ∧ roundShift (c - w) m ≤ c - w) ∧
    (c - w ≤ 0 → c - w ≤ roundShift (c - w) m ∧ roundShift (c - w) m ≤ 0) ∧
    2 * ((2 ^ m : Nat) * roundShift (c - w) m - (c - w)).natAbs ≤ 2 ^ m ∧
    (2 * ((2 ^ m : Nat) * roundShift (c - w) m - (c - w)).natAbs = 2 ^ m →
      (c - w).natAbs < ((2 ^ m : Nat) * roundShift (c - w) m).natAbs)) ∧
  (∀ (m : Nat) (w c : TapSet), tapsInRange w → tapsInRange c → tapsInRange (w.zip (smooth m) c))

/-- The timing, power and frequency steps of R93 to R97: within the deadband nothing moves; beyond it the move is the
whole error in ACQUIRE and at most one step in TRACK, the frequency's always whole; the new total is the sum brought into
its range, the delta its difference from the old one; the limit flag is set exactly when the range clamp bites, and never
for the frequency. -/
def Obligations.AdjustStepsStayInRange : Prop :=
  (∀ (p : Profile) (r : Record) (e : Int), 0 ≤ r.timing → r.timing ≤ 2097151 →
    let x := timingStep p r e
    0 ≤ x.value ∧ x.value ≤ 2097151 ∧ x.delta = x.value - r.timing ∧
    (e.natAbs ≤ p.timingDeadband → x.value = r.timing ∧ x.limit = false) ∧
    (p.timingDeadband < e.natAbs → r.state = .acquire →
      x.value = max 0 (min 2097151 (r.timing + e)) ∧
      (x.limit = true ↔ r.timing + e < 0 ∨ 2097151 < r.timing + e)) ∧
    (p.timingDeadband < e.natAbs → r.state = .track →
      x.value = max 0 (min 2097151 (r.timing + max (-(p.timingStep : Int)) (min p.timingStep e))) ∧
      (x.limit = true ↔ r.timing + max (-(p.timingStep : Int)) (min p.timingStep e) < 0 ∨
        2097151 < r.timing + max (-(p.timingStep : Int)) (min p.timingStep e)))) ∧
  (∀ (p : Profile) (r : Record) (level : Int), p.powerFloor ≤ r.power → r.power ≤ p.powerCeiling →
    let x := powerStep p r level
    let d := -(level - p.target)
    p.powerFloor ≤ x.value ∧ x.value ≤ p.powerCeiling ∧ x.delta = x.value - r.power ∧
    (d.natAbs ≤ p.powerDeadband → x.value = r.power ∧ x.limit = false) ∧
    (p.powerDeadband < d.natAbs → r.state = .acquire →
      x.value = max p.powerFloor (min p.powerCeiling (r.power + d)) ∧
      (x.limit = true ↔ r.power + d < p.powerFloor ∨ p.powerCeiling < r.power + d)) ∧
    (p.powerDeadband < d.natAbs → r.state = .track →
      x.value = max p.powerFloor (min p.powerCeiling (r.power + max (-(p.powerStep : Int)) (min p.powerStep d))) ∧
      (x.limit = true ↔ r.power + max (-(p.powerStep : Int)) (min p.powerStep d) < p.powerFloor ∨
        p.powerCeiling < r.power + max (-(p.powerStep : Int)) (min p.powerStep d)))) ∧
  (∀ (p : Profile) (r : Record) (f : Int), -20000 ≤ r.freq → r.freq ≤ 20000 → -32767 ≤ f → f ≤ 32767 →
    let x := freqStep p r f
    x.limit = false ∧ -20000 ≤ x.value ∧ x.value ≤ 20000 ∧ x.delta = x.value - r.freq ∧
    -40000 ≤ x.delta ∧ x.delta ≤ 40000 ∧
    (f.natAbs ≤ p.freqDeadband → x.value = r.freq) ∧
    (p.freqDeadband < f.natAbs → x.value = max (-20000) (min 20000 (r.freq - f))))

/-- The tap ratio of R100: 1023 when the main energy is 0, otherwise the floor of 1024 times the off-main energy over it,
at most 1023; 0 for the identity set; 1023 from equal energies upward. -/
def Obligations.TapRatioSaturates : Prop :=
  ∀ t : TapSet,
    let energy (a : Tap) : Int := a.re ^ 2 + a.im ^ 2
    let off := energy t.t0 + energy t.t1 + energy t.t3 + energy t.t4 + energy t.t5 + energy t.t6 + energy t.t7
    let main := energy t.t2
    (main = 0 → tapRatio t = 1023) ∧
    (main ≠ 0 → (tapRatio t : Int) = min 1023 (1024 * off / main)) ∧
    tapRatio t ≤ 1023 ∧ (main ≤ off → tapRatio t = 1023) ∧ tapRatio identityTaps = 0 ∧
    (tapsInRange t → off ≤ 15032385536)

/-- The counting of one result by the state as read (R110 to R121): in ACQUIRE each counted result spends budget, an
aligned one extends the run, and the end condition decides; in TRACK silence counts up to the limit and a heard burst
resets it; in LOST only a CLEAN burst of quality 2 or more rejoins; in STORM a MISSED result counts nothing, nor a poor
one in MISSED_OR_POOR. -/
def Obligations.CountingMovesTheState : Prop :=
  (∀ (p : Profile) (r : Record) (storm : Bool) (x : Option Measurement), r.state = .acquire → 1 ≤ r.budget →
    let run : Nat := match x with
      | none => 0
      | some m =>
        if m.error.natAbs ≤ p.lockTiming ∧ (m.power - p.target).natAbs ≤ p.lockPower then min 7 (r.alignedCount + 1)
        else 0
    let c := count p r storm x
    (storm = true → x = none → c = Counted.same r) ∧
    ((storm = false ∨ x ≠ none) →
      c.budget = r.budget - 1 ∧ c.alignedCount = run ∧
      (p.lockBursts ≤ run → (p.endCondition = .either ∨ r.budget = 1) →
        c.state = .track ∧ c.reason = some .locked ∧ c.missCount = 0) ∧
      (run < p.lockBursts → r.budget = 1 →
        c.state = .lost ∧ c.reason = some .exhausted ∧ c.missCount = r.missCount) ∧
      (run < p.lockBursts ∨ p.endCondition = .budget → 2 ≤ r.budget →
        c.state = .acquire ∧ c.reason = none ∧ c.missCount = r.missCount))) ∧
  (∀ (p : Profile) (r : Record) (storm : Bool) (x : Option Measurement), r.state = .track →
    let poor := match x with
      | none => True
      | some m => p.silenceMode = .missedOrPoor ∧ m.mer ≤ 47
    let c := count p r storm x
    c.budget = r.budget ∧ c.alignedCount = r.alignedCount ∧
    (¬ poor → c.state = .track ∧ c.missCount = 0 ∧ c.reason = none) ∧
    (poor → storm = true → c = Counted.same r) ∧
    (poor → storm = false → r.missCount + 1 < p.silenceLimit →
      c.state = .track ∧ c.missCount = r.missCount + 1 ∧ c.reason = none) ∧
    (poor → storm = false → p.silenceLimit ≤ r.missCount + 1 →
      c.state = .lost ∧ c.missCount = 0 ∧ c.reason = some .silent)) ∧
  (∀ (p : Profile) (r : Record) (storm : Bool) (x : Option Measurement), r.state = .lost →
    (∀ m, x = some m → 56 ≤ m.mer → count p r storm x =
      { state := .acquire, missCount := 0, alignedCount := 0, budget := p.budget, reason := some .rejoined }) ∧
    ((∀ m, x = some m → m.mer < 56) → count p r storm x = Counted.same r))

/-! ### Corrections in flight -/

/-- WITHDRAWAL_START: the idle timer takes the marked entry nearest the head and goes for its slot's hold (R129).
CORRECTION_WITHDRAW: with the record read, an entry still in the list with its ISSUED correction is withdrawn: the deltas
leave the totals, the epoch is remembered, nothing is pending, the WITHDRAWN report carries the gap mark,
CORRECTION_WITHDRAWN is raised and the entry leaves with the post (R130); an entry that is gone releases the hold with
nothing changed (R129 step 3). -/
def Obligations.WithdrawalRevertsTheTotals : Prop :=
  (∀ (s : State) (before after : List DeadlineEntry) (e : DeadlineEntry),
    s.timer = .idle → s.deadlines = before ++ e :: after → (∀ x ∈ before, x.expired = false) → e.expired = true →
    exec .withdrawalStart s = .next (s.timerAcquires e.slot e)) ∧
  (∀ s : State, (s.timer ≠ .idle ∨ ∀ x ∈ s.deadlines, x.expired = false) → exec .withdrawalStart s = .next s) ∧
  (∀ (s : State) (slot : Nat) (e : DeadlineEntry) (image : Record), s.timer = .ready slot e image →
    ((∀ x ∈ s.deadlines, ¬ (x.slot = e.slot ∧ x.epoch = e.epoch ∧ x.issueTime = e.issueTime)) →
      exec .correctionWithdraw s = .next { s with timer := .idle }) ∧
    (∀ x ∈ s.deadlines, ∀ c, x.slot = e.slot → x.epoch = e.epoch → x.issueTime = e.issueTime →
      image.pending = some c → c.state = .issued → c.epoch = e.epoch → c.issueTime = e.issueTime →
      exec .correctionWithdraw s = .next (State.timerPosts e
        { slot := slot
          image := { image with
            timing := image.timing - c.timingDelta, power := image.power - c.powerDelta
            freq := image.freq - c.freqDelta, lastWithdrawn := some c.epoch, pending := none
            gap := decide (64 ≤ s.reports.length) }
          deadline := .leave slot, released := none, taken := none }
        ((s.raise .correctionWithdrawn).offer (.withdrawn
          { slot := slot, generation := image.generation, epoch := c.epoch, issueTime := c.issueTime
            gap := image.gap })))))

/-- DELIVERED: a slot or an epoch out of range is answered BAD_ARG before the record is touched; with the record in hand
the first row of the table of R131 that holds gives the answer; OK makes the correction DELIVERED with D, and its entry
leaves the list at the post. -/
def Obligations.DeliveredAnswers : Prop :=
  (∀ (s : State) (slot epoch : Nat) (d : Time), s.headRequest = some (.delivered slot epoch d) →
    (1024 ≤ slot ∨ 8 ≤ epoch → exec .delivered s = .next (s.takeRequest.refuse .badArg)) ∧
    (slot < 1024 → epoch < 8 →
      exec .delivered s = .next (s.takeRequest.commandAcquires slot (.delivered slot epoch d)))) ∧
  (∀ (s : State) (slot n epoch : Nat) (d : Time) (image : Record),
    s.command = .ready slot (.delivered n epoch d) image →
    (image.state = .free → exec .delivered s = .next (s.refuse .noStation)) ∧
    (image.state ≠ .free → image.pending = none →
      exec .delivered s = .next (s.refuse
        (if ∃ e, image.lastWithdrawn = some e ∧ e.toNat = epoch then .tooLate else .nonePending))) ∧
    (∀ c, image.state ≠ .free → image.pending = some c →
      (c.epoch.toNat ≠ epoch → exec .delivered s = .next (s.refuse .staleEpoch)) ∧
      (c.epoch.toNat = epoch → c.state ≠ .issued → exec .delivered s = .next (s.refuse .nonePending)) ∧
      (c.epoch.toNat = epoch → c.state = .issued →
        (2147483648 ≤ (d - c.issueTime).toNat ∨ ((d - s.clock.count).toNat < 2147483648 ∧ d ≠ s.clock.count)) →
        exec .delivered s = .next (s.refuse .badArg)) ∧
      (c.epoch.toNat = epoch → c.state = .issued → (d - c.issueTime).toNat < 2147483648 →
        (2147483648 ≤ (d - s.clock.count).toNat ∨ d = s.clock.count) →
        exec .delivered s = .next (State.commandPosts (.delivered n epoch d)
          { slot := slot, image := { image with pending := some { c with state := .delivered d } }
            deadline := .leave slot, released := none, taken := none } s))))

/-! ### The station link -/

/-- REQUEST_ARRIVAL: with fewer than 8 requests waiting the frame joins queue and reply order; at a full queue it is
counted at the newest entry, up to 65535, or discarded, and REQUEST_OVERRUN is raised (R166). BAD_REQUEST: the free
command engine answers a head whose code is unknown or whose length is wrong (R165, R175). That a frame of no bytes has
the code 0 is the model's choice (log entry 16), and that the entry keeps the code of each request counted at it, in order
of arrival, is its inference (log entry 14). -/
def Obligations.RequestsQueueOrAreCountedFull : Prop :=
  (∀ (s : State) (frame : List Byte),
    (s.requests.length < 8 → exec (.requestArrival frame) s = .next { s with
      requests := s.requests ++ [frame]
      replies := s.replies ++ [{ code := requestCode frame, reply := none, sent := false, refused := [] }] }) ∧
    (8 ≤ s.requests.length → s.replies = [] → exec (.requestArrival frame) s = .next (s.raise .requestOverrun)) ∧
    (∀ rest newest, 8 ≤ s.requests.length → s.replies = rest ++ [newest] → newest.refused.length < 65535 →
      exec (.requestArrival frame) s = .next (State.raise .requestOverrun
        { s with replies := rest ++ [{ newest with refused := newest.refused ++ [requestCode frame] }] })) ∧
    (∀ rest newest, 8 ≤ s.requests.length → s.replies = rest ++ [newest] → 65535 ≤ newest.refused.length →
      exec (.requestArrival frame) s = .next (s.raise .requestOverrun))) ∧
  (∀ (s : State) (frame : List Byte) (rest : List (List Byte)), s.command = .idle → s.requests = frame :: rest →
    (requestLength (requestCode frame) ≠ some frame.length →
      exec .badRequest s = .next ({ s with requests := rest }.refuse .badRequest)) ∧
    (requestLength (requestCode frame) = some frame.length → exec .badRequest s = .next s)) ∧
  (∀ s : State, (s.command ≠ .idle ∨ s.requests = []) → exec .badRequest s = .next s) ∧
  (∀ code, requestLength code ≠ none ↔ 1 ≤ code ∧ code ≤ 24)

/-- OUTGOING_FRAME_END: after the oldest entry's own reply come its FULL replies, one after another, and then the entry
leaves the reply order; the free direction then sends a due reply, else the report at the head of the queue, else
nothing (R169). That the entry keeps the codes of its FULL replies in a list is the model's inference (log entry 14). -/
def Obligations.OutgoingDirectionPrefersReplies : Prop :=
  ∀ (s : State) (f : OutFrame), s.sending = some f →
    ∃ t order, exec .outgoingFrameEnd s = .next t ∧
      (∀ r, f = .report r → order = s.replies) ∧
      (∀ r e rest, f = .reply r → s.replies = e :: rest →
        (e.sent = false → e.refused = [] → order = rest) ∧
        (e.sent = false → e.refused ≠ [] → order = { e with sent := true } :: rest) ∧
        (e.sent = true → e.refused.length ≤ 1 → order = rest) ∧
        (∀ x more, e.sent = true → e.refused = x :: more → more ≠ [] → order = { e with refused := more } :: rest)) ∧
      (∀ e rest own, order = e :: rest → e.reply = some own → e.sent = false →
        t = { s with replies := order, sending := some (.reply own) }) ∧
      (∀ e rest own code more, order = e :: rest → e.reply = some own → e.sent = true → e.refused = code :: more →
        t = { s with replies := order, sending := some (.reply { code := code, status := .full, body := .empty }) }) ∧
      ((order = [] ∨ ∃ e rest, order = e :: rest ∧ e.reply = none) →
        (s.reports = [] → t = { s with replies := order, sending := none }) ∧
        (∀ r rest, s.reports = r :: rest →
          t = { s with replies := order, sending := some (.report r), reports := rest }))

/-- The shared operations behind every report and reply. A report offered to a queue of fewer than 64 enters at its tail
and keeps its place; otherwise it is dropped and REPORT_DROPPED raised (R170). Under a hold, the first report to enter
carries the GAP mark of the image and clears the flag, and a dropped one sets it (R10, R171). An answer completes the
oldest open entry of the reply order with its own code and frees the command engine (R167). Nothing else changes. -/
def Obligations.OfferedReportsEnterOrDrop : Prop :=
  (∀ (s : State) (r : Report),
    (s.reports.length < 64 → reportsInOrder (s.offer r) = reportsInOrder s ++ [r] ∧ (s.offer r).alert = s.alert ∧
      (∀ f, s.sending = some f → (s.offer r).sending = some f) ∧
      s.offer r = { s with reports := (s.offer r).reports, sending := (s.offer r).sending }) ∧
    (64 ≤ s.reports.length → s.offer r = s.raise .reportDropped)) ∧
  (∀ (s : State) (make : Bool → Report) (g : GapTrack),
    (s.reports.length < 64 → State.offerHeld make (s, g) =
      (s.offer (make g.owed), { owed := false, flag := g.flag && !g.owed })) ∧
    (64 ≤ s.reports.length → State.offerHeld make (s, g) =
      (s.raise .reportDropped, { owed := g.owed, flag := true }))) ∧
  (∀ (s : State) (status : Status) (body : ReplyBody) (done rest : List ReplyEntry) (e : ReplyEntry),
    s.replies = done ++ e :: rest → (∀ x ∈ done, x.reply ≠ none) → e.reply = none →
    let t := s.answer status body
    t.replies = done ++ { e with reply := some { code := e.code, status := status, body := body } } :: rest ∧
    t.command = .idle ∧ reportsInOrder t = reportsInOrder s ∧
    (∀ f, s.sending = some f → t.sending = some f) ∧
    (s.sending = none → done = [] → e.sent = false →
      t.sending = some (.reply { code := e.code, status := status, body := body })) ∧
    t = { s with command := t.command, replies := t.replies, reports := t.reports, sending := t.sending }) ∧
  (∀ (s : State) (c d : Cause), (flagged (s.raise c) d ↔ d = c ∨ flagged s d) ∧
    s.raise c = { s with alert := { s.alert with flags := (s.raise c).alert.flags } })

/-! ### Station requests -/

/-- The first step of the requests that work on a record: taken from the head of the queue, a request with a field out of
range is answered BAD_ARG before the record is touched; any other goes for its slot's hold, FETCH for its read without
one (R14 to R23, R16, R131). A free hold for which nobody waits is taken at once and the read asked for; otherwise the
writer waits (R38, R39; log entry 13). -/
def Obligations.RecordRequestsTakeTheHold : Prop :=
  (∀ (s : State) (n lane profile : Nat) (a w f : Int), s.headRequest = some (.admitStation n lane profile a w f) →
    exec .admitStation s = .next
      (if n < 1024 ∧ lane < 4 ∧ profile < 8 ∧ (0 ≤ a ∧ a ≤ 2097151) ∧ (-128 ≤ w ∧ w ≤ 127) ∧ (-20000 ≤ f ∧ f ≤ 20000)
        then s.takeRequest.commandAcquires n (.admitStation n lane profile a w f) else s.takeRequest.refuse .badArg)) ∧
  (∀ (s : State) (n : Nat), s.headRequest = some (.retire n) → exec .retire s = .next
    (if n < 1024 then s.takeRequest.commandAcquires n (.retire n) else s.takeRequest.refuse .badArg)) ∧
  (∀ (s : State) (n lane : Nat), s.headRequest = some (.move n lane) → exec .move s = .next
    (if n < 1024 ∧ lane < 4 then s.takeRequest.commandAcquires n (.move n lane) else s.takeRequest.refuse .badArg)) ∧
  (∀ (s : State) (n : Nat), s.headRequest = some (.recover n) → exec .recover s = .next
    (if n < 1024 then s.takeRequest.commandAcquires n (.recover n) else s.takeRequest.refuse .badArg)) ∧
  (∀ (s : State) (n profile : Nat), s.headRequest = some (.amend n profile) → exec .amend s = .next
    (if n < 1024 ∧ profile < 8 then s.takeRequest.commandAcquires n (.amend n profile)
      else s.takeRequest.refuse .badArg)) ∧
  (∀ (s : State) (n view : Nat), s.headRequest = some (.fetch n view) → exec .fetch s = .next
    (if n < 1024 ∧ view < 2 then
      State.requestRead .command n { s.takeRequest with command := .reading n (.fetch n view) }
      else s.takeRequest.refuse .badArg)) ∧
  (∀ (s : State) (n base number : Nat), s.headRequest = some (.mapTags n base number) → exec .mapTags s = .next
    (if n < 1024 ∧ base < 16384 ∧ (number = 1 ∨ number = 2 ∨ number = 4 ∨ number = 8) then
      s.takeRequest.commandAcquires n (.mapTags n base number) else s.takeRequest.refuse .badArg)) ∧
  (∀ (s : State) (n number : Nat) (tags : List Nat), s.headRequest = some (.unmapTags n number tags) →
    exec .unmapTags s = .next
      (if n < 1024 ∧ 1 ≤ number ∧ number ≤ 8 ∧ (∀ tag ∈ tags.take number, tag < 16384) ∧ (tags.take number).Nodup then
        s.takeRequest.commandAcquires n (.unmapTags n number tags) else s.takeRequest.refuse .badArg)) ∧
  (∀ (s : State) (slot : Nat) (q : Request) (r : BurstResult) (e : DeadlineEntry),
    (s.holder slot = none → s.awaited slot = false →
      s.commandAcquires slot q = State.requestRead .command slot { s with command := .reading slot q } ∧
      s.updateAcquires slot r = State.requestRead .update slot { s with update := .reading slot r } ∧
      s.timerAcquires slot e = State.requestRead .timer slot { s with timer := .reading slot e }) ∧
    (s.holder slot ≠ none ∨ s.awaited slot = true →
      s.commandAcquires slot q = { s with command := .waiting slot q } ∧
      s.updateAcquires slot r = { s with update := .waiting slot r } ∧
      s.timerAcquires slot e = { s with timer := .waiting slot e }))

/-- ADMIT with the record in hand: a live slot is IN_USE, a W outside the profile's bounds OUT_OF_BOUNDS; otherwise the
slot starts a new life in ACQUIRE with every field of R17, generation, next epoch kept, its profile's use count rising
with the post, and the ADMITTED report offered first (R16, R17, R26, R27). -/
def Obligations.AdmitMakesAStation : Prop :=
  ∀ (s : State) (slot n lane profile : Nat) (a w f : Int) (image : Record) (l : LaneId) (p : ProfileId),
    s.command = .ready slot (.admitStation n lane profile a w f) image → l.val = lane → p.val = profile →
    (image.state ≠ .free → exec .admitStation s = .next (s.refuse .inUse)) ∧
    (image.state = .free → (w < (s.profile p).powerFloor ∨ (s.profile p).powerCeiling < w) →
      exec .admitStation s = .next (s.refuse .outOfBounds)) ∧
    (image.state = .free → (s.profile p).powerFloor ≤ w → w ≤ (s.profile p).powerCeiling →
      exec .admitStation s = .next (State.commandPosts (.admitStation n lane profile a w f)
        { slot := slot
          image :=
            { state := .acquire, generation := image.generation, homeLane := l, profile := p, tags := [], timing := a
              power := w, freq := f, taps := identityTaps, quality := none, last := none, missCount := 0
              alignedCount := 0, budget := (s.profile p).budget, pending := none, nextEpoch := image.nextEpoch
              lastWithdrawn := none, gap := decide (64 ≤ s.reports.length) }
          deadline := .keep, released := none, taken := some p }
        (s.offer (.state { slot := some slot, old := some .free, new := .acquire, reason := .admitted
                           gap := image.gap }))))

/-- RETIRE with the record in hand: a FREE slot is NO_STATION; a live one becomes FREE with the next generation, no tags,
no pending correction and no last withdrawn epoch; an ISSUED correction's entry leaves the list, the profile's use count
falls, and the RETIRED report is offered first (R18). The fields to which a FREE slot gives no meaning keep what they
held: the model's choice (log entry 10). -/
def Obligations.RetireFreesTheSlot : Prop :=
  ∀ (s : State) (slot n : Nat) (image : Record), s.command = .ready slot (.retire n) image →
    (image.state = .free → exec .retire s = .next (s.refuse .noStation)) ∧
    (image.state ≠ .free → exec .retire s = .next (State.commandPosts (.retire n)
      { slot := slot
        image := { image with state := .free, generation := image.generation + 1, tags := [], pending := none
                              lastWithdrawn := none, gap := decide (64 ≤ s.reports.length) }
        deadline := if ∃ c, image.pending = some c ∧ c.state = .issued then .leave slot else .keep
        released := some image.profile, taken := none }
      (s.offer (.state { slot := some slot, old := some image.state, new := .free, reason := .retired
                         gap := image.gap }))))

/-- MOVE with the record in hand: a FREE slot is NO_STATION; otherwise any pending correction is withdrawn as R20 says,
with its WITHDRAWN report and CORRECTION_WITHDRAWN, and the station starts acquisition afresh on the named lane with the
next generation, identity taps and no quality (R19); profile, tags, next epoch and use counts stay. The WITHDRAWN report
carries the generation before the increment (log entry 15). -/
def Obligations.MoveStartsAfresh : Prop :=
  ∀ (s : State) (slot n lane : Nat) (image : Record) (l : LaneId),
    s.command = .ready slot (.move n lane) image → l.val = lane →
    let moved (sg : State × GapTrack) (timing power freq : Int) (withdrawn : Option Epoch) (change : DeadlineChange) :
        State :=
      let told := State.offerHeld (fun gap => .state
        { slot := some slot, old := some image.state, new := .acquire, reason := .moved, gap := gap }) sg
      State.commandPosts (.move n lane)
        { slot := slot
          image :=
            { state := .acquire, generation := image.generation + 1, homeLane := l, profile := image.profile
              tags := image.tags, timing := timing, power := power, freq := freq, taps := identityTaps, quality := none
              last := none, missCount := 0, alignedCount := 0, budget := (s.profile image.profile).budget
              pending := none, nextEpoch := image.nextEpoch, lastWithdrawn := withdrawn, gap := told.2.flag }
          deadline := change, released := none, taken := none } told.1
    (image.state = .free → exec .move s = .next (s.refuse .noStation)) ∧
    (image.state ≠ .free → image.pending = none →
      exec .move s = .next (moved (s, { owed := image.gap, flag := image.gap }) image.timing image.power image.freq
        image.lastWithdrawn .keep)) ∧
    (∀ c, image.state ≠ .free → image.pending = some c →
      exec .move s = .next (moved
        (State.offerHeld (fun gap => .withdrawn { slot := slot, generation := image.generation, epoch := c.epoch
                                                  issueTime := c.issueTime, gap := gap })
          (s.raise .correctionWithdrawn, { owed := image.gap, flag := image.gap }))
        (image.timing - c.timingDelta) (image.power - c.powerDelta) (image.freq - c.freqDelta) (some c.epoch)
        (if c.state = .issued then .leave slot else .keep)))

/-- RECOVER with the record in hand: NO_STATION for a FREE slot, BAD_STATE for one not LOST; otherwise ACQUIRE with a full
budget, counts at 0 and the next generation, every other field kept, and the RECOVERED report offered first (R21). -/
def Obligations.RecoverReturnsToAcquire : Prop :=
  ∀ (s : State) (slot n : Nat) (image : Record), s.command = .ready slot (.recover n) image →
    (image.state = .free → exec .recover s = .next (s.refuse .noStation)) ∧
    (image.state = .acquire ∨ image.state = .track → exec .recover s = .next (s.refuse .badState)) ∧
    (image.state = .lost → exec .recover s = .next (State.commandPosts (.recover n)
      { slot := slot
        image := { image with state := .acquire, budget := (s.profile image.profile).budget, alignedCount := 0
                              missCount := 0, generation := image.generation + 1
                              gap := decide (64 ≤ s.reports.length) }
        deadline := .keep, released := none, taken := none }
      (s.offer (.state { slot := some slot, old := some .lost, new := .acquire, reason := .recovered
                         gap := image.gap }))))

/-- AMEND with the record in hand: NO_STATION for a FREE slot; OUT_OF_BOUNDS when W, or W less a pending power delta, lies
outside the new profile's bounds; otherwise the record names the new profile, the use counts move with the post, and a
miss count in TRACK is brought below the new silence limit (R22, R118). No report is offered. -/
def Obligations.AmendChangesTheProfile : Prop :=
  ∀ (s : State) (slot n profile : Nat) (image : Record) (p : ProfileId),
    s.command = .ready slot (.amend n profile) image → p.val = profile →
    let fits (w : Int) : Prop := (s.profile p).powerFloor ≤ w ∧ w ≤ (s.profile p).powerCeiling
    let lawful := fits image.power ∧ ∀ c, image.pending = some c → fits (image.power - c.powerDelta)
    (image.state = .free → exec .amend s = .next (s.refuse .noStation)) ∧
    (image.state ≠ .free → ¬ lawful → exec .amend s = .next (s.refuse .outOfBounds)) ∧
    (image.state ≠ .free → lawful → exec .amend s = .next (State.commandPosts (.amend n profile)
      { slot := slot
        image := { image with
          profile := p
          missCount := if image.state = .track ∧ (s.profile p).silenceLimit ≤ image.missCount then
            (s.profile p).silenceLimit - 1 else image.missCount }
        deadline := .keep, released := some image.profile, taken := some p } s))

/-- FETCH with the record in hand: NO_STATION for a FREE slot; otherwise the reply shows the record as read, in the fields
of the SUMMARY view, with state and epoch alone of the pending correction, and, for FULL, the fields it adds, the whole
correction among them (R23, R141); nothing else changes. -/
def Obligations.FetchShowsTheRecord : Prop :=
  ∀ (s : State) (slot n view : Nat) (image : Record), s.command = .ready slot (.fetch n view) image →
    let summary : Summary :=
      { slot := slot, generation := image.generation, state := image.state, homeLane := image.homeLane
        profile := image.profile, timing := image.timing, power := image.power, freq := image.freq
        quality := image.quality, missCount := image.missCount
        pending := image.pending.map fun c =>
          (match c.state with | .issued => DeliveryState.issued | .delivered _ => DeliveryState.delivered, c.epoch) }
    (view < 2 → image.state = .free → exec .fetch s = .next (s.refuse .noStation)) ∧
    (view = 0 → image.state ≠ .free → exec .fetch s =
      .next (s.answer .ok (.record { summary := summary, fullPart := none }))) ∧
    (view = 1 → image.state ≠ .free → exec .fetch s =
      .next (s.answer .ok (.record
        { summary := summary
          fullPart := some { tags := image.tags, taps := image.taps, last := image.last
                             alignedCount := image.alignedCount, budget := image.budget, pending := image.pending
                             nextEpoch := image.nextEpoch, lastWithdrawn := image.lastWithdrawn, gap := image.gap } })))

/-- MAP_TAGS and UNMAP_TAGS with the record in hand: the checks of R14 in their order, then the whole block joins the list
in ascending order; for R15 NO_STATION, then NOT_MAPPED when any named tag is not this slot's, then every named tag
leaves. A refusal leaves the map as it was; map and list change together at the post. MISALIGNED is judged here (log
entry 19). -/
def Obligations.MapAndUnmapTags : Prop :=
  (∀ (s : State) (slot n base number : Nat) (image : Record), s.command = .ready slot (.mapTags n base number) image →
    let block := (List.range number).map fun i => base + i
    (base % number ≠ 0 → exec .mapTags s = .next (s.refuse .misaligned)) ∧
    (base % number = 0 →
      (image.state = .free → exec .mapTags s = .next (s.refuse .noStation)) ∧
      (image.state ≠ .free →
        ((∃ tag ∈ block, ∃ m, tagFind s.tagMap tag = some m) → exec .mapTags s = .next (s.refuse .tagTaken)) ∧
        ((∀ tag ∈ block, tagFind s.tagMap tag = none) →
          (8 < image.tags.length + number → exec .mapTags s = .next (s.refuse .tagLimit)) ∧
          (image.tags.length + number ≤ 8 → image.tags.Pairwise (· < ·) →
            (∀ tag ∈ block, tag ∉ image.tags) →
            ∃ merged : List Nat, merged.Pairwise (· < ·) ∧ merged.length = image.tags.length + number ∧
              (∀ tag, tag ∈ merged ↔ tag ∈ image.tags ∨ tag ∈ block) ∧
              exec .mapTags s = .next (State.commandPosts (.mapTags n base number)
                { slot := slot, image := { image with tags := merged }, deadline := .keep, released := none
                  taken := none } s)))))) ∧
  (∀ (s : State) (slot n number : Nat) (fields : List Nat) (image : Record),
    s.command = .ready slot (.unmapTags n number fields) image →
    (image.state = .free → exec .unmapTags s = .next (s.refuse .noStation)) ∧
    (image.state ≠ .free →
      ((∃ tag ∈ fields.take number, tagFind s.tagMap tag ≠ some slot) →
        exec .unmapTags s = .next (s.refuse .notMapped)) ∧
      ((∀ tag ∈ fields.take number, tagFind s.tagMap tag = some slot) →
        exec .unmapTags s = .next (State.commandPosts (.unmapTags n number fields)
          { slot := slot, image := { image with tags := image.tags.filter fun tag => decide (tag ∉ fields.take number) }
            deadline := .keep, released := none, taken := none } s))))

/-- CLEAR_ALL is taken from the queue and the walk stands before slot 0; CLEAR_ALL_SLOT goes for the next slot's hold and
record; with the record in hand a FREE slot is passed by, a live one is retired without a report, and after slot 1023 the
CLEARED report is offered before the reply OK (R24, R25). The fields to which a FREE slot gives no meaning keep what they
held: the model's choice (log entry 10). -/
def Obligations.ClearAllWalksTheTable : Prop :=
  (∀ s : State, s.headRequest = some .clearAll →
    exec .clearAll s = .next { s.takeRequest with command := .atSlot 0 .clearAll }) ∧
  (∀ (s : State) (slot : Nat), s.command = .atSlot slot .clearAll →
    exec .clearAllSlot s = .next (s.commandAcquires slot .clearAll)) ∧
  (∀ (s : State) (slot : Nat) (image : Record), s.command = .ready slot .clearAll image →
    (image.state = .free → slot < 1023 →
      exec .clearAllSlot s = .next { s with command := .atSlot (slot + 1) .clearAll }) ∧
    (image.state = .free → slot = 1023 →
      exec .clearAllSlot s = .next
        ((s.offer (.state { slot := none, old := none, new := .free, reason := .cleared, gap := false })).answer .ok
          .empty)) ∧
    (image.state ≠ .free →
      exec .clearAllSlot s = .next (State.commandPosts .clearAll
        { slot := slot
          image := { image with state := .free, generation := image.generation + 1, tags := [], pending := none
                                lastWithdrawn := none }
          deadline := if ∃ c, image.pending = some c ∧ c.state = .issued then .leave slot else .keep
          released := some image.profile, taken := none } s)))

/-! ### Profiles, lanes and noise monitors -/

/-- PROFILE_SET: BAD_ARG for the number, BAD_PROFILE for fields out of the values of R142 or against its two relations,
IN_USE while stations name the profile, and otherwise all twenty-one fields at once (R144). PROFILE_GET: BAD_ARG, or the
number, the fields and the use count as they stand (R146). -/
def Obligations.ProfileSetAndGet : Prop :=
  (∀ (s : State) (n : Nat) (raw : RawProfile), s.headRequest = some (.profileSet n raw) →
    (8 ≤ n → exec .profileSet s = .next (s.takeRequest.refuse .badArg)) ∧
    (∀ p : ProfileId, p.val = n →
      (raw.check = none → exec .profileSet s = .next (s.takeRequest.refuse .badProfile)) ∧
      (∀ fields, raw.check = some fields → (s.profileEntry p).useCount ≠ 0 →
        exec .profileSet s = .next (s.takeRequest.refuse .inUse)) ∧
      (∀ fields, raw.check = some fields → (s.profileEntry p).useCount = 0 →
        exec .profileSet s = .next
          ((s.takeRequest.setProfileEntry p { fields := fields, useCount := 0 }).answer .ok .empty)))) ∧
  (∀ raw : RawProfile,
    (raw.check ≠ none ↔
      (-64 ≤ raw.target ∧ raw.target ≤ 63) ∧ raw.powerDeadband ≤ 31 ∧ (1 ≤ raw.powerStep ∧ raw.powerStep ≤ 48) ∧
      (-128 ≤ raw.powerFloor ∧ raw.powerFloor ≤ raw.powerCeiling ∧ raw.powerCeiling ≤ 127) ∧
      raw.timingDeadband ≤ 255 ∧ (1 ≤ raw.timingStep ∧ raw.timingStep ≤ 4095) ∧
      (64 ≤ raw.trackWindow ∧ raw.trackWindow ≤ 16383 ∧ raw.timingStep ≤ raw.trackWindow) ∧
      (256 ≤ raw.acquisitionWindow ∧ raw.acquisitionWindow ≤ 262143) ∧ raw.freqDeadband ≤ 2000 ∧
      raw.lockTiming ≤ 4095 ∧ raw.lockPower ≤ 31 ∧ (1 ≤ raw.lockBursts ∧ raw.lockBursts ≤ 7) ∧
      (1 ≤ raw.budget ∧ raw.budget ≤ 63) ∧ raw.endCode ≤ 1 ∧ (1 ≤ raw.silenceLimit ∧ raw.silenceLimit ≤ 15) ∧
      raw.modeCode ≤ 1 ∧ raw.smoothing ≤ 6 ∧ (1 ≤ raw.tapThreshold ∧ raw.tapThreshold ≤ 1023) ∧
      (4096 ≤ raw.deliveryLimit ∧ raw.deliveryLimit ≤ 16777215) ∧ raw.settle ≤ 1048575) ∧
    (∀ fields, raw.check = some fields →
      fields =
        { target := raw.target, powerDeadband := raw.powerDeadband, powerStep := raw.powerStep
          powerFloor := raw.powerFloor, powerCeiling := raw.powerCeiling, timingDeadband := raw.timingDeadband
          timingStep := raw.timingStep, trackWindow := raw.trackWindow, acquisitionWindow := raw.acquisitionWindow
          freqDeadband := raw.freqDeadband, lockTiming := raw.lockTiming, lockPower := raw.lockPower
          lockBursts := raw.lockBursts, budget := raw.budget
          endCondition := if raw.endCode = 0 then .either else .budget
          silenceLimit := raw.silenceLimit, silenceMode := if raw.modeCode = 0 then .missedOnly else .missedOrPoor
          smoothing := raw.smoothing, tapThreshold := raw.tapThreshold, deliveryLimit := raw.deliveryLimit
          settle := raw.settle })) ∧
  (∀ (s : State) (n : Nat), s.headRequest = some (.profileGet n) →
    (8 ≤ n → exec .profileGet s = .next (s.takeRequest.refuse .badArg)) ∧
    (∀ p : ProfileId, p.val = n → exec .profileGet s =
      .next (s.takeRequest.answer .ok (.profile p (s.profile p) (s.profileEntry p).useCount))))

/-- LANE_SET: BAD_ARG for a lane or a setting outside the values of R62, BUSY for a lane in RUN or STORM, otherwise the
six settings at once and nothing else of the lane (R63). LANE_START: BAD_ARG, BUSY, or OFF becomes RUN with the rest of
the lane as it stands (R64).
LANE_STOP, whatever the lane's state: OFF, its queue flushed and its tail reference cleared, its held grants abandoned
with their ABANDONED headers (R81) and reports in the order of R65, its lookups withdrawn, its monitor unmeasured with
mode and interval kept; the result holder, the other lanes and the records stay; the reply OK follows the reports (R59,
R65). That an orphan's ABANDONED report carries no slot and no generation is the model's inference (log entry 31). -/
def Obligations.LaneRequestsSetStartAndStop : Prop :=
  ((∀ (s : State) (n rate preamble lookahead margin openWindow : Nat) (floor : Int),
    s.headRequest = some (.laneSet n rate preamble lookahead floor margin openWindow) →
    let sound := rate ≤ 2 ∧ (preamble = 16 ∨ preamble = 32 ∨ preamble = 64) ∧ (64 ≤ lookahead ∧ lookahead ≤ 65535) ∧
      (-320 ≤ floor ∧ floor ≤ 80) ∧ (8 ≤ margin ∧ margin ≤ 255) ∧ (256 ≤ openWindow ∧ openWindow ≤ 262143)
    (4 ≤ n ∨ ¬ sound → exec .laneSet s = .next (s.takeRequest.refuse .badArg)) ∧
    (∀ l : LaneId, l.val = n → sound →
      ((s.lane l).mode ≠ .off → exec .laneSet s = .next (s.takeRequest.refuse .busy)) ∧
      ((s.lane l).mode = .off → exec .laneSet s = .next
        ((s.takeRequest.setLane l { s.lane l with settings :=
          { rate := if rate = 0 then .low else if rate = 1 then .mid else .high, preamble := preamble
            lookahead := lookahead, defaultFloor := floor, margin := margin, openWindow := openWindow } }).answer .ok
          .empty)))) ∧
  (∀ (s : State) (n : Nat), s.headRequest = some (.laneStart n) →
    (4 ≤ n → exec .laneStart s = .next (s.takeRequest.refuse .badArg)) ∧
    (∀ l : LaneId, l.val = n →
      ((s.lane l).mode ≠ .off → exec .laneStart s = .next (s.takeRequest.refuse .busy)) ∧
      ((s.lane l).mode = .off → exec .laneStart s = .next
        ((s.takeRequest.setLane l { s.lane l with mode := .run }).answer .ok .empty))))) ∧
  (∀ (s : State) (n : Nat), s.headRequest = some (.laneStop n) →
    (4 ≤ n → exec .laneStop s = .next (s.takeRequest.refuse .badArg)) ∧
    (∀ l : LaneId, l.val = n →
      let u := s.takeRequest.setLane l
        { mode := .off, settings := (s.lane l).settings, queue := [], tail := none, held := []
          holder := (s.lane l).holder
          monitor := { mode := (s.lane l).monitor.mode, interval := (s.lane l).monitor.interval, latched := none
                       mark := false, consecutive := 0 } }
      let v := State.withdrawReads (isLookupOfLane l) u
      exec .laneStop s = .next ((State.offerAll
        ((s.lane l).held.filterMap (Held.abandonReport l) ++
          (if (s.lane l).queue = [] then []
            else [.laneFlush { lane := l, reason := .stopped, count := (s.lane l).queue.length }]))
        (State.emitAll ((s.lane l).held.filterMap (Held.abandonUnit l)) v)).answer .ok .empty) ∧
      (∀ k, k ≠ l → v.lane k = s.lane k) ∧ (∀ m, v.record m = s.record m) ∧
      (∀ h : Held, Held.abandonReport l h = if h.grant.kind = .quiet then none else some (.burst
        { lane := l, start := h.grant.start, kind := h.grant.kind, tag := h.grant.tag, slot := h.reception.slot
          generation := h.reception.generation, outcome := .abandoned, measured := none, quality := none
          timingLimit := false, powerLimit := false, clipped := false, pre := false, gap := false })) ∧
      (∀ h : Held, Held.abandonUnit l h = if h.grant.kind = .quiet then none else some
        { lane := l, start := h.grant.start, tag := h.grant.tag, outcome := .abandoned, count := 0, symbols := [] })))

/-- NOISE_MODE: BAD_ARG for a lane, mode or interval out of range; otherwise mode and interval take their values, the new
interval is tested at once, and nothing else of the monitor changes (R153, R155). NOISE_STATUS: BAD_ARG, or the monitor
as it stands (R163). -/
def Obligations.NoiseModeAndStatus : Prop :=
  (∀ (s : State) (n code seconds : Nat), s.headRequest = some (.noiseMode n code seconds) →
    (4 ≤ n ∨ 3 ≤ code ∨ seconds = 0 ∨ 60 < seconds → exec .noiseMode s = .next (s.takeRequest.refuse .badArg)) ∧
    (∀ l : LaneId, l.val = n → code < 3 → 1 ≤ seconds → seconds ≤ 60 →
      exec .noiseMode s = .next ((s.takeRequest.setLane l { s.lane l with monitor := { (s.lane l).monitor with
        mode := if code = 0 then .off else if code = 1 then .periodic else .every
        interval := seconds * 20000000
        mark := match (s.lane l).monitor.latched with
          | none => (s.lane l).monitor.mark
          | some k => (s.lane l).monitor.mark ||
              decide (seconds * 20000000 ≤ (s.clock.count - k.lastStart).toNat) } }).answer .ok .empty))) ∧
  (∀ (s : State) (n : Nat), s.headRequest = some (.noiseStatus n) →
    (4 ≤ n → exec .noiseStatus s = .next (s.takeRequest.refuse .badArg)) ∧
    (∀ l : LaneId, l.val = n → exec .noiseStatus s = .next (s.takeRequest.answer .ok (.noise
      { lane := l, mode := (s.lane l).mode, monitorMode := (s.lane l).monitor.mode
        seconds := (s.lane l).monitor.interval / 20000000
        busy := decide (∃ h ∈ (s.lane l).held, h.reception = .quietMeasuring)
        latched := (s.lane l).monitor.latched, mark := (s.lane l).monitor.mark
        consecutive := (s.lane l).monitor.consecutive
        effectiveFloor := match (s.lane l).monitor.latched with
          | none => (s.lane l).settings.defaultFloor
          | some k => k.level }))))

/-! ### Sweeps -/

/-- SWEEP: BAD_ARG for a field out of range, BUSY while a sweep is RUNNING or ENDING, UNSYNC; otherwise it is accepted with
the descriptor of R176 and asks for its first read (R177). SWEEP_STATUS shows the engine as it stands (R182). -/
def Obligations.SweepAcceptedAndShown : Prop :=
  (∀ (s : State) (first number states lanes profiles view deadline : Nat),
    s.headRequest = some (.sweep first number states lanes profiles view deadline) →
    let sound := first < 1024 ∧ (1 ≤ number ∧ number ≤ 1024) ∧ (states % 2 = 0 ∧ states % 16 ≠ 0) ∧
      (0 < lanes ∧ lanes < 16) ∧ (0 < profiles ∧ profiles < 256) ∧ view < 2 ∧ (1 ≤ deadline ∧ deadline ≤ 1000)
    (¬ sound → exec .sweep s = .next (s.takeRequest.refuse .badArg)) ∧
    (sound → s.sweep.phase ≠ .idle → exec .sweep s = .next (s.takeRequest.refuse .busy)) ∧
    (sound → s.sweep.phase = .idle → s.clock.synchronised = false →
      exec .sweep s = .next (s.takeRequest.refuse .unsync)) ∧
    (sound → s.sweep.phase = .idle → s.clock.synchronised = true →
      exec .sweep s = .next ((State.requestRead .sweep first { s.takeRequest with sweep :=
        { phase := .running, result := .none
          run := some
            { first := first, last := min (first + number - 1) 1023, states := BitVec.ofNat 4 states
              lanes := BitVec.ofNat 4 lanes, profiles := BitVec.ofNat 8 profiles
              view := if view = 0 then .summary else .full, start := s.clock.count, deadline := deadline * 20000
              next := first, frame := [], framesSent := 0, emitted := 0, resume := first, applies := true
              heldOff := false } } }).answer .ok .empty))) ∧
  (∀ s : State, s.headRequest = some .sweepStatus → exec .sweepStatus s = .next (s.takeRequest.answer .ok (.sweep
    (match s.sweep.run with
      | none => { phase := s.sweep.phase, result := s.sweep.result, remaining := 0, framesSent := 0, emitted := 0
                  nextSlot := none }
      | some r =>
        { phase := s.sweep.phase, result := s.sweep.result
          remaining := if s.sweep.phase = .running then r.last + 1 - r.next else 0
          framesSent := r.framesSent, emitted := r.emitted
          nextSlot := if s.sweep.phase = .idle then some r.resume else none }))))

/-- A sweep read's record joins the open frame when its state, home lane and profile are in the sets and its state is not
FREE (R177). A full frame, or the final part-frame, is offered when at most 48 reports wait, at the read or at a later
SWEEP_FRAME_OFFER; otherwise it waits and no read is requested (R178); the reads go on, or the sweep is DONE (R179).
SWEEP_END: in ENDING, with a free entry, the SWEEP_END report enters, SWEEP_ENDED is raised and the engine is IDLE.
That SWEEP_READ_COMPLETE does what BANK_READ_COMPLETE does on the same read is the model's inference (log entry 23). -/
def Obligations.SweepReadsFramesAndEnd : Prop :=
  (∀ (s : State) (r : SweepRun) (image : Record) (granted : Time),
    (s.bank (bankOf r.next)).access = .read (some .sweep) r.next image granted → s.sweep.phase = .running →
    s.sweep.run = some r →
    let fits := image.state ≠ .free ∧
      r.states.getLsbD (match image.state with | .free => 0 | .acquire => 1 | .track => 2 | .lost => 3) = true ∧
      r.lanes.getLsbD image.homeLane.val = true ∧ r.profiles.getLsbD image.profile.val = true
    let frame := if fits then r.frame ++ [{ view := viewRecord r.view r.next image, readTime := granted }] else r.frame
    let after : SweepRun := { r with next := r.next + 1, frame := frame }
    let free := s.freeBank (bankOf r.next)
    let ready := (match r.view with | .summary => 8 | .full => 4) ≤ frame.length ∨ (r.last < r.next + 1 ∧ frame ≠ [])
    exec .sweepReadComplete s = exec (.bankReadComplete (bankOf r.next)) s ∧
    (ready → 48 < s.reports.length →
      exec .sweepReadComplete s = .next { free with sweep := { s.sweep with run := some after } }) ∧
    (ready → s.reports.length ≤ 48 → exec .sweepReadComplete s = .next (free.offerFrame after)) ∧
    (¬ ready → r.next + 1 ≤ r.last → exec .sweepReadComplete s = .next
      (State.requestRead .sweep (r.next + 1) { free with sweep := { s.sweep with run := some after } })) ∧
    (¬ ready → r.last < r.next + 1 → exec .sweepReadComplete s = .next
      { free with sweep := { phase := .ending, result := .done
                             run := some { after with resume := r.last + 1, applies := false } } })) ∧
  (∀ (s : State) (r : SweepRun), s.sweep.phase = .running → s.sweep.run = some r →
    let ready := (match r.view with | .summary => 8 | .full => 4) ≤ r.frame.length ∨ (r.last < r.next ∧ r.frame ≠ [])
    (¬ ready ∨ 48 < s.reports.length → exec .sweepFrameOffer s = .next s) ∧
    (ready → s.reports.length ≤ 48 → exec .sweepFrameOffer s = .next (s.offerFrame r))) ∧
  (∀ (s : State) (r : SweepRun) (last : SweepRecord) (front : List SweepRecord), s.reports.length ≤ 48 →
    r.frame = front ++ [last] →
    let told := s.offer (.sweepRecords { frame := r.framesSent, view := r.view, records := r.frame })
    let sent : SweepRun :=
      { r with framesSent := r.framesSent + 1, emitted := r.emitted + r.frame.length
               resume := last.view.summary.slot + 1, frame := [] }
    (r.next ≤ r.last → s.offerFrame r =
      State.requestRead .sweep r.next { told with sweep := { s.sweep with run := some sent } }) ∧
    (r.last < r.next → s.offerFrame r =
      { told with sweep := { phase := .ending, result := .done
                             run := some { sent with resume := r.last + 1, applies := false } } })) ∧
  (∀ (s : State) (r : SweepRun), s.sweep.phase = .ending → s.sweep.run = some r →
    (64 ≤ s.reports.length → exec .sweepEnd s = .next s) ∧
    (s.reports.length < 64 → exec .sweepEnd s = .next (State.raise .sweepEnded
      (State.offer (.sweepEnd { status := s.sweep.result, emitted := r.emitted, framesSent := r.framesSent
                                nextSlot := r.resume })
        { s with sweep := { s.sweep with phase := .idle } }))))

/-- SWEEP_DEADLINE_EXPIRE once the elapsed time has reached the deadline, and SWEEP_STOP, stop a RUNNING sweep where it
stands: its read is withdrawn, its open frame discarded, the resume point is the discarded frame's first record or the
next slot to read, and the result is TIMEOUT or STOPPED (R180, R181, R42). SWEEP_STOP of a sweep that is not RUNNING is
BAD_STATE. That the expiry is a step of its own, judged on the count as it stands when the step is taken, and that the mark
heldOff says which sweep a backward trim keeps from the test, are the model's inferences (log entries 18 and 17). -/
def Obligations.SweepStopsAndExpires : Prop :=
  let stopped (result : SweepResult) (r : SweepRun) (s : State) : State :=
    State.withdrawReads (fun who => decide (who = .sweep))
      { s with sweep := { phase := .ending, result := result
                          run := some { r with
                            resume := (match r.frame with | [] => r.next | x :: _ => x.view.summary.slot)
                            frame := [], applies := false } } }
  (∀ (s : State) (r : SweepRun), s.sweep.phase = .running → s.sweep.run = some r →
    (r.applies = true → r.heldOff = false → r.deadline ≤ (s.clock.count - r.start).toNat →
      exec .sweepDeadlineExpire s = .next (stopped .timeout r s)) ∧
    (r.applies = false ∨ r.heldOff = true ∨ (s.clock.count - r.start).toNat < r.deadline →
      exec .sweepDeadlineExpire s = .next s) ∧
    (s.headRequest = some .sweepStop →
      exec .sweepStop s = .next ((stopped .stopped r s.takeRequest).answer .ok .empty))) ∧
  (∀ s : State, s.sweep.phase ≠ .running → exec .sweepDeadlineExpire s = .next s ∧
    (s.headRequest = some .sweepStop → exec .sweepStop s = .next (s.takeRequest.refuse .badState))) ∧
  (∀ (r : SweepRun) (result : SweepResult) (s : State), (∀ n, (stopped result r s).record n = s.record n) ∧
    ∀ k slot image granted, ((stopped result r s).bank k).access ≠ .read (some .sweep) slot image granted)

/-! ### The alert unit -/

/-- A group asserts when its priority is above 0 and at least the threshold and one of its causes is set and enabled;
ALERT is asserted while some group is (R185); the groups and their causes are those of R183.
ALERT_READ answers with the set flags, the line and the first pending group: the asserting group of highest priority,
the first in the order PLANT, STATION, FLOW, SERVICE among equals, absent when none asserts (R186); it changes nothing. -/
def Obligations.AlertLineAndReadFollowTheGroups : Prop :=
  (let group : Cause → AlertGroup
    | .stormEnter => .plant
    | .stormLeave => .plant
    | .clockSlip => .plant
    | .stationLost => .station
    | .correctionWithdrawn => .station
    | .newcomerSeen => .station
    | .grantRefused => .flow
    | .reportDropped => .flow
    | .resultUnprocessed => .flow
    | .orphanGrant => .flow
    | .sweepEnded => .service
    | .requestOverrun => .service
  (∀ (u : AlertUnit) (g : AlertGroup), u.asserting g = true ↔
    0 < u.priority g ∧ u.threshold ≤ u.priority g ∧
      ∃ c, group c = g ∧ u.flags.getLsbD c.bit = true ∧ u.enables.getLsbD c.bit = true) ∧
  (∀ u : AlertUnit, u.line = true ↔ ∃ g, u.asserting g = true) ∧
  (∀ u : AlertUnit, u.line = true →
    ∃ c, u.flags.getLsbD c.bit = true ∧ u.enables.getLsbD c.bit = true ∧ 0 < u.priority (group c)) ∧
  State.reset.alert.line = false) ∧
  (let order : AlertGroup → Nat
    | .plant => 0
    | .station => 1
    | .flow => 2
    | .service => 3
  (∀ s : State, s.headRequest = some .alertRead → exec .alertRead s =
    .next (s.takeRequest.answer .ok (.alert s.alert.flags s.alert.line s.alert.firstPending))) ∧
  (∀ u : AlertUnit,
    (u.firstPending = none ↔ ∀ g, u.asserting g = false) ∧
    (∀ g, u.firstPending = some g ↔ u.asserting g = true ∧
      ∀ h, u.asserting h = true → u.priority h < u.priority g ∨ (u.priority h = u.priority g ∧ order g ≤ order h))))

/-- ALERT_ACK refuses a set that names no cause in bits 12 to 15; otherwise it clears exactly the named flags and answers
OK (R187). ALERT_SET refuses an unknown cause, a priority above 3 or a threshold outside 1..3; otherwise enables,
priorities and threshold take their values together and the flags stay (R188). -/
def Obligations.AlertAckAndSet : Prop :=
  (∀ (s : State) (causes : Nat), s.headRequest = some (.alertAck causes) →
    (4096 ≤ causes → exec .alertAck s = .next (s.takeRequest.refuse .badArg)) ∧
    (causes < 4096 → ∃ flags : BitVec 12,
      (∀ c : Cause, flags.getLsbD c.bit = (s.alert.flags.getLsbD c.bit && !causes.testBit c.bit)) ∧
      exec .alertAck s =
        .next ({ s.takeRequest with alert := { s.alert with flags := flags } }.answer .ok .empty))) ∧
  (∀ (s : State) (enables plant station flow service threshold : Nat),
    s.headRequest = some (.alertSet enables plant station flow service threshold) →
    (4096 ≤ enables ∨ 3 < plant ∨ 3 < station ∨ 3 < flow ∨ 3 < service ∨ threshold = 0 ∨ 3 < threshold →
      exec .alertSet s = .next (s.takeRequest.refuse .badArg)) ∧
    (enables < 4096 → plant ≤ 3 → station ≤ 3 → flow ≤ 3 → service ≤ 3 → 1 ≤ threshold → threshold ≤ 3 →
      ∃ on : BitVec 12, (∀ c : Cause, on.getLsbD c.bit = enables.testBit c.bit) ∧
        exec .alertSet s = .next ({ s.takeRequest with alert :=
          { flags := s.alert.flags, enables := on, plant := plant, station := station, flow := flow
            service := service, threshold := threshold } }.answer .ok .empty)))

/-! ### Frames -/

/-- Every frame laid out as R172 and R175 say decodes to the fields it was laid out from, for every value of every field,
and a request decodes from no other frame; a notice frame's missing bytes count as 0 and its surplus ones are ignored. -/
def Obligations.IncomingFramesRoundTrip : Prop :=
  (∀ r : Request, r.fits = true → parseRequest r.frame = some r) ∧
  (∀ (f : List Byte) (r : Request), parseRequest f = some r → r.fits = true ∧ r.frame = f) ∧
  (∀ n : Notice, n.wellSized = true → n.lane < 256 → n.kind < 256 → n.length < 65536 → n.tag < 65536 →
    decodeNotice n.frame = n ∧
    (∀ b more, decodeNotice (n.frame ++ b :: more) = { n with wellSized := false }) ∧
    (∀ size, size < 10 → decodeNotice (n.frame.take size) =
      { decodeNotice (n.frame.take size ++ List.replicate (10 - size) 0) with wellSized := false }))

/-- The BURST and CORRECTION reports are laid out as R173 and R174 say: their lengths, and each field read back from its
place. -/
def Obligations.ReportFramesAreLaidOut : Prop :=
  (∀ r : BurstReport,
    r.bytes.length = 24 ∧ field r.bytes 0 1 = 1 ∧ field r.bytes 1 1 = r.lane.val ∧ field r.bytes 2 1 = r.kind.code ∧
    field r.bytes 3 1 = r.outcome.code ∧ timeField r.bytes 4 = r.start ∧
    (∀ tag, r.tag.getD 0 = tag → tag < 65536 → field r.bytes 8 2 = tag) ∧
    (∀ slot, r.slot.getD 0 = slot → slot < 65536 → field r.bytes 10 2 = slot) ∧
    field r.bytes 12 1 = (r.generation.getD 0).toNat ∧
    (field r.bytes 13 1).testBit 0 = r.tag.isSome ∧ (field r.bytes 13 1).testBit 1 = r.slot.isSome ∧
    (field r.bytes 13 1).testBit 2 = r.generation.isSome ∧ (field r.bytes 13 1).testBit 3 = r.measured.isSome ∧
    (field r.bytes 13 1).testBit 4 = r.timingLimit ∧ (field r.bytes 13 1).testBit 5 = r.powerLimit ∧
    (field r.bytes 13 1).testBit 6 = r.clipped ∧ (field r.bytes 13 1).testBit 7 = r.pre ∧
    field r.bytes 14 1 = (if r.gap then 1 else 0) ∧
    (r.measured = none → r.bytes.drop 15 = List.replicate 9 0) ∧
    (∀ m q, r.measured = some m → r.quality = some q → q ≤ 15 → -2147483648 ≤ m.error → m.error < 2147483648 →
      -128 ≤ m.power → m.power ≤ 127 → -32767 ≤ m.freq → m.freq ≤ 32767 → 0 ≤ m.mer → m.mer ≤ 200 →
      signedField r.bytes 15 4 = m.error ∧ signedField r.bytes 19 1 = m.power ∧ signedField r.bytes 20 2 = m.freq ∧
      (field r.bytes 22 1 : Int) = m.mer ∧ field r.bytes 23 1 = q)) ∧
  (∀ r : CorrectionReport,
    r.bytes.length = (if r.taps.isSome then 54 else 22) ∧ field r.bytes 0 1 = 2 ∧ field r.bytes 1 1 = r.epoch.toNat ∧
    (r.slot < 65536 → field r.bytes 2 2 = r.slot) ∧ field r.bytes 4 1 = r.generation.toNat ∧
    field r.bytes 5 1 = (if r.tag.isSome then 1 else 0) + (if r.taps.isSome then 2 else 0) + (if r.gap then 4 else 0) ∧
    (∀ tag, r.tag.getD 0 = tag → tag < 65536 → field r.bytes 6 2 = tag) ∧ timeField r.bytes 8 = r.issueTime ∧
    (-2147483648 ≤ r.timingDelta → r.timingDelta < 2147483648 → signedField r.bytes 12 4 = r.timingDelta) ∧
    (-32768 ≤ r.powerDelta → r.powerDelta < 32768 → signedField r.bytes 16 2 = r.powerDelta) ∧
    (-2147483648 ≤ r.freqDelta → r.freqDelta < 2147483648 → signedField r.bytes 18 4 = r.freqDelta) ∧
    (∀ t, r.taps = some t → tapsInRange t → ∀ (i : Nat) (a : Tap), t.toList[i]? = some a →
      signedField r.bytes (22 + 4 * i) 2 = a.re ∧ signedField r.bytes (24 + 4 * i) 2 = a.im))

/-! ### Invariants that every step keeps -/

/-- The state after reset meets every invariant that a statement says every step keeps. -/
def Obligations.ResetStateIsSound : Prop :=
  Bounded State.reset ∧ HeldRecordsNewest State.reset ∧ TagsMirrored State.reset ∧ SweepOrdered State.reset ∧
  SweepBounded State.reset ∧ LinkSound State.reset ∧ BanksBusy State.reset ∧ ValuesInRange State.reset ∧
  DeadlinesMirrored State.reset ∧ GrantsOrdered State.reset

/-- Every step keeps the capacity laws: at most 32 queued and 2 held grants and 2 results a lane (R50, R54, R83), 2 posted
images a bank (R33), 8 requests (R166), 64 reports (R170); and the canonical forms of the arrays and the tag map. The
open frame of a sweep is SweepStaysInOrder's.
Every step keeps each grant queue in start-time order without overlap (R50), as long as no grant is left in a queue until
its end lies 2^31 - 2^23 ticks behind the count, where plant times no longer compare; that due heads leave in time is the
sender's (log entry 2). -/
def Obligations.CapacitiesHoldAtEveryStep : Prop :=
  (∀ s t : State, Bounded s → step s = .next t → Bounded t) ∧
  (∀ s t : State, GrantsOrdered s → GrantsTimely s → step s = .next t → GrantsOrdered t)

/-- Every step keeps the promise of the store: no two writers hold one slot (R38), each writer has exactly the read its
phase shows (R29), and a record in hand under a hold is the newest image of its slot, so that no change is lost (R39). -/
def Obligations.HeldRecordsStayNewest : Prop :=
  ∀ s t : State, HeldRecordsNewest s → step s = .next t → HeldRecordsNewest t

/-- Every step keeps the law of R12: each tag maps to at most one slot, and every slot's list holds exactly the tags
mapped to it, in ascending order, at most 8, none in a FREE slot. -/
def Obligations.TagMapMirrorsTheRecords : Prop :=
  ∀ s t : State, TagsMirrored s → step s = .next t → TagsMirrored t

/-- Every step keeps a sweep's frame in strictly rising slot order, from the resume point on and of slots already read
(R177 to R180). Every step keeps the sweep's descriptor and progress within the values of R176, its open frame within 8
SUMMARY or 4 FULL records among them, and exactly one read outstanding, of the next slot in its range, while it is RUNNING
and its frame does not wait for room (R177 to R179). -/
def Obligations.SweepStaysInOrder : Prop :=
  (∀ s t : State, SweepOrdered s → step s = .next t → SweepOrdered t) ∧
  (∀ s t : State, SweepBounded s → step s = .next t → SweepBounded t)

/-- Every step keeps the reply order complete and in order, one entry for each request that waits or is in hand, and the
outgoing direction idle only when nothing can be sent (R166, R167, R169). -/
def Obligations.LinkOwesEveryReply : Prop :=
  ∀ s t : State, LinkSound s → step s = .next t → LinkSound t

/-- Every step keeps each bank busy while a read or a posted image waits for it (R30, R35; log entry 12 for the bank that a
waiting post is about to use). -/
def Obligations.BanksNeverIdleWithWork : Prop :=
  ∀ s t : State, BanksBusy s → step s = .next t → BanksBusy t

/-- Every step keeps these values in the ranges the spec gives them: totals, taps, last measurement, counts and tags of
records (R2, R5, R6, R8, R12, R99), pending deltas (R9), profiles (R142), lane settings (R62), monitors (R152), results (R78,
R79), delivery limits (R127), refusal counts (R166), the descriptor, progress and open frame of a sweep (R176), alert
settings (R183). Each use count stays the number
of live slots whose record names the profile (R26). Every live station keeps its power total within the bounds of the
profile it names, also after a withdrawal of its pending correction (R5, R130), its miss count in TRACK below the silence
limit (R8), and a budget of 1 or more in ACQUIRE (R111). -/
def Obligations.ValuesStayInRange : Prop :=
  ∀ s t : State, ValuesInRange s → step s = .next t → ValuesInRange t

/-! ### What only some commands may do -/

/-- The record of a slot changes, but for RESET, only while some writer has the slot's hold (R38, R39); no drain, read,
tick, pulse, lane or sweep event changes what a read returns (R36, R41, R47). -/
def Obligations.RecordsChangeOnlyUnderTheHold : Prop :=
  ∀ (c : Instr) (s t : State) (n : Nat), c ≠ .reset → (∀ k, tableWf (s.bank k).array = true) → exec c s = .next t →
    t.record n ≠ s.record n →
    (s.update.heldSlot = some n ∨ s.commandHeld = some n ∨ s.timer.heldSlot = some n) ∧
    c ∈ [.updateProcess, .correctionWithdraw, .postTakesEntry (bankOf n), .admitStation, .retire, .move, .recover, .amend,
      .mapTags, .unmapTags, .clearAllSlot, .delivered]

/-- The synchronised flag is cleared by RESET alone and set by a SYNC pulse alone (R43, R60); a lane's state changes by
RESET, LANE_START, LANE_STOP and a latch alone (R62, R159, R161); its settings by RESET and LANE_SET alone (R62); a
profile's fields by RESET alone while its use count is above 0 (R143); a flag is cleared by RESET and ALERT_ACK alone and
the alert unit's settings change by RESET and ALERT_SET alone (R183, R184). -/
def Obligations.SettingsChangeOnlyByTheirCommands : Prop :=
  ∀ (c : Instr) (s t : State), c ≠ .reset → exec c s = .next t →
    (s.clock.synchronised = true → t.clock.synchronised = true) ∧
    ((∀ a b, c ≠ .syncPulse a b) → t.clock.synchronised = s.clock.synchronised) ∧
    ((∀ a b, c ≠ .syncPulse a b) → c ≠ .tick → t.clock.count = s.clock.count) ∧
    (∀ l, (t.lane l).mode ≠ (s.lane l).mode → c = .laneStart ∨ c = .laneStop ∨ ∃ power, c = .noiseLatch l power) ∧
    (∀ l, (t.lane l).settings ≠ (s.lane l).settings → c = .laneSet ∧ (s.lane l).mode = .off) ∧
    (∀ p, (s.profileEntry p).useCount ≠ 0 → t.profile p = s.profile p) ∧
    (∀ p, t.profile p ≠ s.profile p → c = .profileSet) ∧
    (c ≠ .alertAck → ∀ x, flagged s x → flagged t x) ∧
    (c ≠ .alertSet → t.alert = { s.alert with flags := t.alert.flags })

/-- A report that has entered the queue keeps its place until it is sent: but for RESET, the reports in order only grow at
the end, and OUTGOING_FRAME_END alone takes the first away, when it is a report that was being sent (R169, R170). The
symbol port likewise (R81). -/
def Obligations.ReportsKeepTheirOrder : Prop :=
  ∀ (c : Instr) (s t : State), c ≠ .reset → exec c s = .next t →
    (c ≠ .outgoingFrameEnd → reportsInOrder s <+: reportsInOrder t) ∧
    (c = .outgoingFrameEnd → ∀ r, s.sending = some (.report r) → reportsInOrder s = r :: reportsInOrder t) ∧
    (c = .outgoingFrameEnd → (∀ r, s.sending ≠ some (.report r)) → reportsInOrder t = reportsInOrder s) ∧
    (c ≠ .symbolUnitEmitted → s.port <+: t.port)

/-- No correction is issued for a station whose home lane is in STORM, and no miss is counted for it: processing its
result leaves its adjusts, next epoch and any pending correction, but for an absorption, and raises no miss count and
starts no silence (R104, R115). -/
def Obligations.StormWithholdsCorrectionsAndMisses : Prop :=
  ∀ (s t : State) (slot : Nat) (r : BurstResult) (image : Record),
    s.update = .ready slot r image → image = s.record slot → (s.lane r.lane).mode = .storm →
    exec .updateProcess s = .next t →
    let kept (x : Record) : Prop :=
      x.timing = image.timing ∧ x.power = image.power ∧ x.freq = image.freq ∧ x.nextEpoch = image.nextEpoch ∧
      (x.pending = image.pending ∨ x.pending = none) ∧ x.missCount ≤ image.missCount ∧
      (image.state = .track → x.state = .track)
    kept (t.record slot) ∧ (∀ q p, t.update = .posting q p → p.slot = slot ∧ kept p.image ∧ p.deadline = .keep) ∧
    t.deadlines = s.deadlines

end
end

