-- ==== Sys2Proof/Laws/Arithmetic.lean ====
section
/-! SUPPORT. The arithmetic conventions: modular time, clamps, rounding, and the numbers that name lanes, profiles and
kinds. -/

namespace Sys2Proof.Machine

/-! ### Modular time (R1) -/

theorem atOrAfter_iff (a b : Time) : atOrAfter a b = true ↔ (a - b).toNat < 2147483648 := by simp only [atOrAfter, decide_eq_true_eq]

theorem before_iff (a b : Time) : before a b = true ↔ 2147483648 ≤ (a - b).toNat := by
  simp only [before, atOrAfter, Bool.not_eq_true', decide_eq_false_iff_not, Nat.not_lt]

theorem before_eq (a b : Time) : before a b = decide (2147483648 ≤ (a - b).toNat) := by
  rw [Bool.eq_iff_iff, before_iff, decide_eq_true_eq]

/-- A time is at or after itself. -/
@[simp] theorem atOrAfter_self (a : Time) : atOrAfter a a = true := by simp [atOrAfter]

/-! ### Clamps -/

/-- A clamp lies between its bounds. -/
theorem clamp_bounds {lo hi : Int} (x : Int) (h : lo ≤ hi) : lo ≤ clamp x lo hi ∧ clamp x lo hi ≤ hi := by
  unfold clamp; split
  · omega
  · split <;> omega

/-- A clamp is the nearer bound, or the value itself. -/
theorem clamp_eq {lo hi : Int} (x : Int) (h : lo ≤ hi) : clamp x lo hi = max lo (min hi x) := by
  unfold clamp; split
  · omega
  · split <;> omega

/-- A clamp bites exactly outside its bounds. -/
theorem clampBites_iff (x lo hi : Int) : clampBites x lo hi = true ↔ x < lo ∨ hi < x := by
  unfold clampBites clamp
  rw [decide_eq_true_eq]
  split
  · omega
  · split <;> omega

/-! ### Rounding (R1, R98) -/

/-- The quotient rounded: it has the sign of the dividend, is no larger, and lies within half a unit of the exact one. -/
theorem roundShift_bounds (x : Int) (m : Nat) :
    (0 ≤ x → 0 ≤ roundShift x m ∧ roundShift x m ≤ x) ∧ (x ≤ 0 → x ≤ roundShift x m ∧ roundShift x m ≤ 0) := by
  have hp : 0 < 2 ^ m := Nat.two_pow_pos m
  have key : ∀ y : Int, 0 ≤ y → 0 ≤ (2 * y + (2 ^ m : Nat)) / (2 * (2 ^ m : Nat)) ∧
      (2 * y + (2 ^ m : Nat)) / (2 * (2 ^ m : Nat)) ≤ y := by
    intro y hy
    generalize hP : (2 ^ m : Nat) = P at *
    have hP' : (1 : Int) ≤ P := by omega
    constructor
    · exact Int.ediv_nonneg (by omega) (by omega)
    · by_cases h0 : y = 0
      · subst h0
        have : (2 * 0 + (P : Int)) / (2 * P) = 0 := Int.ediv_eq_zero_of_lt (by omega) (by omega)
        omega
      · have h1 : (P : Int) ≤ y * P := by
          have := Int.mul_le_mul_of_nonneg_right (show (1 : Int) ≤ y by omega) (show (0 : Int) ≤ P by omega)
          omega
        have h3 : y ≤ y * P := by
          have := Int.mul_le_mul_of_nonneg_left hP' (show (0 : Int) ≤ y by omega)
          omega
        have h2 : (2 * y + (P : Int)) / (2 * P) < y + 1 := by
          apply Int.ediv_lt_of_lt_mul (by omega)
          have h4 : (y + 1) * (2 * (P : Int)) = 2 * (y * P) + 2 * P := by
            rw [Int.add_mul, Int.one_mul, Int.mul_left_comm]
          rw [h4]; omega
        omega
  unfold roundShift
  constructor
  · intro h
    rw [if_pos h]
    exact key x h
  · intro h
    split
    · have hx : x = 0 := by omega
      subst hx
      have := key 0 (by omega)
      omega
    · have := key (-x) (by omega)
      omega

/-! ### Numbers -/

@[simp] theorem laneOf_val (l : LaneId) : laneOf l.val = some l := by simp [laneOf]

theorem laneOf_eq_some {n : Nat} {l : LaneId} : laneOf n = some l ↔ l.val = n := by
  unfold laneOf
  split
  · exact ⟨fun h => (by cases h; rfl), fun h => (by subst h; rfl)⟩
  · exact ⟨fun h => (by cases h), fun h => (by have := l.isLt; omega)⟩

theorem laneOf_eq_none {n : Nat} : laneOf n = none ↔ 4 ≤ n := by
  unfold laneOf; split <;> simp <;> omega

@[simp] theorem profileOf_val (p : ProfileId) : profileOf p.val = some p := by simp [profileOf]

theorem profileOf_eq_some {n : Nat} {p : ProfileId} : profileOf n = some p ↔ p.val = n := by
  unfold profileOf
  split
  · exact ⟨fun h => (by cases h; rfl), fun h => (by subst h; rfl)⟩
  · exact ⟨fun h => (by cases h), fun h => (by have := p.isLt; omega)⟩

theorem profileOf_eq_none {n : Nat} : profileOf n = none ↔ 8 ≤ n := by
  unfold profileOf; split <;> simp <;> omega

/-- The range test of R62, R142 and their kin. -/
theorem within_iff (x lo hi : Int) : within x lo hi = true ↔ lo ≤ x ∧ x ≤ hi := by
  simp [within]

/-- The slot numbers of the table (R2). -/
theorem slotInRange_iff (n : Nat) : slotInRange n = true ↔ n < 1024 := by
  simp only [slotInRange, decide_eq_true_eq]; exact Iff.rfl

/-- A quality level is at most 15 (R92). -/
theorem qualityOf_le (mer : Int) : qualityOf mer ≤ 15 := by
  unfold qualityOf
  have := clamp_bounds (floorDiv (mer - 40) 8) (show (0 : Int) ≤ 15 by decide)
  omega

end Sys2Proof.Machine
end

