-- ==== Sys2Proof/Laws/State.lean ====
section
/-! SUPPORT. One lemma per field per update of the state, and the read-after-write laws of its vectors. -/

namespace Sys2Proof.Machine

section
variable (s : State) (l : LaneId) (x : Lane)

@[simp] theorem State.setLane_clock : (s.setLane l x).clock = s.clock := rfl
@[simp] theorem State.setLane_tagMap : (s.setLane l x).tagMap = s.tagMap := rfl
@[simp] theorem State.setLane_banks : (s.setLane l x).banks = s.banks := rfl
@[simp] theorem State.setLane_profiles : (s.setLane l x).profiles = s.profiles := rfl
@[simp] theorem State.setLane_update : (s.setLane l x).update = s.update := rfl
@[simp] theorem State.setLane_deadlines : (s.setLane l x).deadlines = s.deadlines := rfl
@[simp] theorem State.setLane_timer : (s.setLane l x).timer = s.timer := rfl
@[simp] theorem State.setLane_command : (s.setLane l x).command = s.command := rfl
@[simp] theorem State.setLane_requests : (s.setLane l x).requests = s.requests := rfl
@[simp] theorem State.setLane_replies : (s.setLane l x).replies = s.replies := rfl
@[simp] theorem State.setLane_reports : (s.setLane l x).reports = s.reports := rfl
@[simp] theorem State.setLane_sending : (s.setLane l x).sending = s.sending := rfl
@[simp] theorem State.setLane_sweep : (s.setLane l x).sweep = s.sweep := rfl
@[simp] theorem State.setLane_port : (s.setLane l x).port = s.port := rfl
@[simp] theorem State.setLane_alert : (s.setLane l x).alert = s.alert := rfl
@[simp] theorem State.setLane_pending : (s.setLane l x).pending = s.pending := rfl
@[simp] theorem State.setLane_bank (k : BankId): State.bank (s.setLane l x) k = State.bank s k := rfl
@[simp] theorem State.setLane_profileEntry (k : ProfileId): State.profileEntry (s.setLane l x) k = State.profileEntry s k := rfl
@[simp] theorem State.setLane_profile (k : ProfileId): State.profile (s.setLane l x) k = State.profile s k := rfl
@[simp] theorem State.setLane_now : (s.setLane l x).now = s.now := rfl
@[simp] theorem State.setLane_reportRoom : (s.setLane l x).reportRoom = s.reportRoom := rfl
@[simp] theorem State.setLane_record (n : Nat) : (s.setLane l x).record n = s.record n := rfl

end

section
variable (s : State) (b : BankId) (x : Bank)

@[simp] theorem State.setBank_clock : (s.setBank b x).clock = s.clock := rfl
@[simp] theorem State.setBank_lanes : (s.setBank b x).lanes = s.lanes := rfl
@[simp] theorem State.setBank_tagMap : (s.setBank b x).tagMap = s.tagMap := rfl
@[simp] theorem State.setBank_profiles : (s.setBank b x).profiles = s.profiles := rfl
@[simp] theorem State.setBank_update : (s.setBank b x).update = s.update := rfl
@[simp] theorem State.setBank_deadlines : (s.setBank b x).deadlines = s.deadlines := rfl
@[simp] theorem State.setBank_timer : (s.setBank b x).timer = s.timer := rfl
@[simp] theorem State.setBank_command : (s.setBank b x).command = s.command := rfl
@[simp] theorem State.setBank_requests : (s.setBank b x).requests = s.requests := rfl
@[simp] theorem State.setBank_replies : (s.setBank b x).replies = s.replies := rfl
@[simp] theorem State.setBank_reports : (s.setBank b x).reports = s.reports := rfl
@[simp] theorem State.setBank_sending : (s.setBank b x).sending = s.sending := rfl
@[simp] theorem State.setBank_sweep : (s.setBank b x).sweep = s.sweep := rfl
@[simp] theorem State.setBank_port : (s.setBank b x).port = s.port := rfl
@[simp] theorem State.setBank_alert : (s.setBank b x).alert = s.alert := rfl
@[simp] theorem State.setBank_pending : (s.setBank b x).pending = s.pending := rfl
@[simp] theorem State.setBank_lane (k : LaneId): State.lane (s.setBank b x) k = State.lane s k := rfl
@[simp] theorem State.setBank_profileEntry (k : ProfileId): State.profileEntry (s.setBank b x) k = State.profileEntry s k := rfl
@[simp] theorem State.setBank_profile (k : ProfileId): State.profile (s.setBank b x) k = State.profile s k := rfl
@[simp] theorem State.setBank_now : (s.setBank b x).now = s.now := rfl
@[simp] theorem State.setBank_reportRoom : (s.setBank b x).reportRoom = s.reportRoom := rfl

end

section
variable (s : State) (p : ProfileId) (x : ProfileEntry)

@[simp] theorem State.setProfileEntry_clock : (s.setProfileEntry p x).clock = s.clock := rfl
@[simp] theorem State.setProfileEntry_lanes : (s.setProfileEntry p x).lanes = s.lanes := rfl
@[simp] theorem State.setProfileEntry_tagMap : (s.setProfileEntry p x).tagMap = s.tagMap := rfl
@[simp] theorem State.setProfileEntry_banks : (s.setProfileEntry p x).banks = s.banks := rfl
@[simp] theorem State.setProfileEntry_update : (s.setProfileEntry p x).update = s.update := rfl
@[simp] theorem State.setProfileEntry_deadlines : (s.setProfileEntry p x).deadlines = s.deadlines := rfl
@[simp] theorem State.setProfileEntry_timer : (s.setProfileEntry p x).timer = s.timer := rfl
@[simp] theorem State.setProfileEntry_command : (s.setProfileEntry p x).command = s.command := rfl
@[simp] theorem State.setProfileEntry_requests : (s.setProfileEntry p x).requests = s.requests := rfl
@[simp] theorem State.setProfileEntry_replies : (s.setProfileEntry p x).replies = s.replies := rfl
@[simp] theorem State.setProfileEntry_reports : (s.setProfileEntry p x).reports = s.reports := rfl
@[simp] theorem State.setProfileEntry_sending : (s.setProfileEntry p x).sending = s.sending := rfl
@[simp] theorem State.setProfileEntry_sweep : (s.setProfileEntry p x).sweep = s.sweep := rfl
@[simp] theorem State.setProfileEntry_port : (s.setProfileEntry p x).port = s.port := rfl
@[simp] theorem State.setProfileEntry_alert : (s.setProfileEntry p x).alert = s.alert := rfl
@[simp] theorem State.setProfileEntry_pending : (s.setProfileEntry p x).pending = s.pending := rfl
@[simp] theorem State.setProfileEntry_lane (k : LaneId): State.lane (s.setProfileEntry p x) k = State.lane s k := rfl
@[simp] theorem State.setProfileEntry_bank (k : BankId): State.bank (s.setProfileEntry p x) k = State.bank s k := rfl
@[simp] theorem State.setProfileEntry_now : (s.setProfileEntry p x).now = s.now := rfl
@[simp] theorem State.setProfileEntry_reportRoom : (s.setProfileEntry p x).reportRoom = s.reportRoom := rfl
@[simp] theorem State.setProfileEntry_record (n : Nat) : (s.setProfileEntry p x).record n = s.record n := rfl

end

section
variable (s : State) (c : Cause)

@[simp] theorem State.raise_clock : (s.raise c).clock = s.clock := rfl
@[simp] theorem State.raise_lanes : (s.raise c).lanes = s.lanes := rfl
@[simp] theorem State.raise_tagMap : (s.raise c).tagMap = s.tagMap := rfl
@[simp] theorem State.raise_banks : (s.raise c).banks = s.banks := rfl
@[simp] theorem State.raise_profiles : (s.raise c).profiles = s.profiles := rfl
@[simp] theorem State.raise_update : (s.raise c).update = s.update := rfl
@[simp] theorem State.raise_deadlines : (s.raise c).deadlines = s.deadlines := rfl
@[simp] theorem State.raise_timer : (s.raise c).timer = s.timer := rfl
@[simp] theorem State.raise_command : (s.raise c).command = s.command := rfl
@[simp] theorem State.raise_requests : (s.raise c).requests = s.requests := rfl
@[simp] theorem State.raise_replies : (s.raise c).replies = s.replies := rfl
@[simp] theorem State.raise_reports : (s.raise c).reports = s.reports := rfl
@[simp] theorem State.raise_sending : (s.raise c).sending = s.sending := rfl
@[simp] theorem State.raise_sweep : (s.raise c).sweep = s.sweep := rfl
@[simp] theorem State.raise_port : (s.raise c).port = s.port := rfl
@[simp] theorem State.raise_pending : (s.raise c).pending = s.pending := rfl
@[simp] theorem State.raise_lane (k : LaneId): State.lane (s.raise c) k = State.lane s k := rfl
@[simp] theorem State.raise_bank (k : BankId): State.bank (s.raise c) k = State.bank s k := rfl
@[simp] theorem State.raise_profileEntry (k : ProfileId): State.profileEntry (s.raise c) k = State.profileEntry s k := rfl
@[simp] theorem State.raise_profile (k : ProfileId): State.profile (s.raise c) k = State.profile s k := rfl
@[simp] theorem State.raise_now : (s.raise c).now = s.now := rfl
@[simp] theorem State.raise_reportRoom : (s.raise c).reportRoom = s.reportRoom := rfl
@[simp] theorem State.raise_record (n : Nat) : (s.raise c).record n = s.record n := rfl

end

section
variable (s : State) 

@[simp] theorem State.takeRequest_clock : (s.takeRequest).clock = s.clock := rfl
@[simp] theorem State.takeRequest_lanes : (s.takeRequest).lanes = s.lanes := rfl
@[simp] theorem State.takeRequest_tagMap : (s.takeRequest).tagMap = s.tagMap := rfl
@[simp] theorem State.takeRequest_banks : (s.takeRequest).banks = s.banks := rfl
@[simp] theorem State.takeRequest_profiles : (s.takeRequest).profiles = s.profiles := rfl
@[simp] theorem State.takeRequest_update : (s.takeRequest).update = s.update := rfl
@[simp] theorem State.takeRequest_deadlines : (s.takeRequest).deadlines = s.deadlines := rfl
@[simp] theorem State.takeRequest_timer : (s.takeRequest).timer = s.timer := rfl
@[simp] theorem State.takeRequest_command : (s.takeRequest).command = s.command := rfl
@[simp] theorem State.takeRequest_replies : (s.takeRequest).replies = s.replies := rfl
@[simp] theorem State.takeRequest_reports : (s.takeRequest).reports = s.reports := rfl
@[simp] theorem State.takeRequest_sending : (s.takeRequest).sending = s.sending := rfl
@[simp] theorem State.takeRequest_sweep : (s.takeRequest).sweep = s.sweep := rfl
@[simp] theorem State.takeRequest_port : (s.takeRequest).port = s.port := rfl
@[simp] theorem State.takeRequest_alert : (s.takeRequest).alert = s.alert := rfl
@[simp] theorem State.takeRequest_pending : (s.takeRequest).pending = s.pending := rfl
@[simp] theorem State.takeRequest_lane (k : LaneId): State.lane (s.takeRequest) k = State.lane s k := rfl
@[simp] theorem State.takeRequest_bank (k : BankId): State.bank (s.takeRequest) k = State.bank s k := rfl
@[simp] theorem State.takeRequest_profileEntry (k : ProfileId): State.profileEntry (s.takeRequest) k = State.profileEntry s k := rfl
@[simp] theorem State.takeRequest_profile (k : ProfileId): State.profile (s.takeRequest) k = State.profile s k := rfl
@[simp] theorem State.takeRequest_now : (s.takeRequest).now = s.now := rfl
@[simp] theorem State.takeRequest_reportRoom : (s.takeRequest).reportRoom = s.reportRoom := rfl
@[simp] theorem State.takeRequest_record (n : Nat) : (s.takeRequest).record n = s.record n := rfl

end

section
variable (s : State) (r : SweepRun)

@[simp] theorem State.setRun_clock : (s.setRun r).clock = s.clock := rfl
@[simp] theorem State.setRun_lanes : (s.setRun r).lanes = s.lanes := rfl
@[simp] theorem State.setRun_tagMap : (s.setRun r).tagMap = s.tagMap := rfl
@[simp] theorem State.setRun_banks : (s.setRun r).banks = s.banks := rfl
@[simp] theorem State.setRun_profiles : (s.setRun r).profiles = s.profiles := rfl
@[simp] theorem State.setRun_update : (s.setRun r).update = s.update := rfl
@[simp] theorem State.setRun_deadlines : (s.setRun r).deadlines = s.deadlines := rfl
@[simp] theorem State.setRun_timer : (s.setRun r).timer = s.timer := rfl
@[simp] theorem State.setRun_command : (s.setRun r).command = s.command := rfl
@[simp] theorem State.setRun_requests : (s.setRun r).requests = s.requests := rfl
@[simp] theorem State.setRun_replies : (s.setRun r).replies = s.replies := rfl
@[simp] theorem State.setRun_reports : (s.setRun r).reports = s.reports := rfl
@[simp] theorem State.setRun_sending : (s.setRun r).sending = s.sending := rfl
@[simp] theorem State.setRun_port : (s.setRun r).port = s.port := rfl
@[simp] theorem State.setRun_alert : (s.setRun r).alert = s.alert := rfl
@[simp] theorem State.setRun_pending : (s.setRun r).pending = s.pending := rfl
@[simp] theorem State.setRun_lane (k : LaneId): State.lane (s.setRun r) k = State.lane s k := rfl
@[simp] theorem State.setRun_bank (k : BankId): State.bank (s.setRun r) k = State.bank s k := rfl
@[simp] theorem State.setRun_profileEntry (k : ProfileId): State.profileEntry (s.setRun r) k = State.profileEntry s k := rfl
@[simp] theorem State.setRun_profile (k : ProfileId): State.profile (s.setRun r) k = State.profile s k := rfl
@[simp] theorem State.setRun_now : (s.setRun r).now = s.now := rfl
@[simp] theorem State.setRun_reportRoom : (s.setRun r).reportRoom = s.reportRoom := rfl
@[simp] theorem State.setRun_record (n : Nat) : (s.setRun r).record n = s.record n := rfl

end

section
variable (s : State) (u : SymbolUnit)

@[simp] theorem State.emit_clock : (s.emit u).clock = s.clock := rfl
@[simp] theorem State.emit_lanes : (s.emit u).lanes = s.lanes := rfl
@[simp] theorem State.emit_tagMap : (s.emit u).tagMap = s.tagMap := rfl
@[simp] theorem State.emit_banks : (s.emit u).banks = s.banks := rfl
@[simp] theorem State.emit_profiles : (s.emit u).profiles = s.profiles := rfl
@[simp] theorem State.emit_update : (s.emit u).update = s.update := rfl
@[simp] theorem State.emit_deadlines : (s.emit u).deadlines = s.deadlines := rfl
@[simp] theorem State.emit_timer : (s.emit u).timer = s.timer := rfl
@[simp] theorem State.emit_command : (s.emit u).command = s.command := rfl
@[simp] theorem State.emit_requests : (s.emit u).requests = s.requests := rfl
@[simp] theorem State.emit_replies : (s.emit u).replies = s.replies := rfl
@[simp] theorem State.emit_reports : (s.emit u).reports = s.reports := rfl
@[simp] theorem State.emit_sending : (s.emit u).sending = s.sending := rfl
@[simp] theorem State.emit_sweep : (s.emit u).sweep = s.sweep := rfl
@[simp] theorem State.emit_alert : (s.emit u).alert = s.alert := rfl
@[simp] theorem State.emit_pending : (s.emit u).pending = s.pending := rfl
@[simp] theorem State.emit_lane (k : LaneId): State.lane (s.emit u) k = State.lane s k := rfl
@[simp] theorem State.emit_bank (k : BankId): State.bank (s.emit u) k = State.bank s k := rfl
@[simp] theorem State.emit_profileEntry (k : ProfileId): State.profileEntry (s.emit u) k = State.profileEntry s k := rfl
@[simp] theorem State.emit_profile (k : ProfileId): State.profile (s.emit u) k = State.profile s k := rfl
@[simp] theorem State.emit_now : (s.emit u).now = s.now := rfl
@[simp] theorem State.emit_reportRoom : (s.emit u).reportRoom = s.reportRoom := rfl
@[simp] theorem State.emit_record (n : Nat) : (s.emit u).record n = s.record n := rfl

end

section
variable (s : State) (gone : Requester → Bool)

@[simp] theorem State.withdrawReads_clock : (s.withdrawReads gone).clock = s.clock := rfl
@[simp] theorem State.withdrawReads_lanes : (s.withdrawReads gone).lanes = s.lanes := rfl
@[simp] theorem State.withdrawReads_tagMap : (s.withdrawReads gone).tagMap = s.tagMap := rfl
@[simp] theorem State.withdrawReads_profiles : (s.withdrawReads gone).profiles = s.profiles := rfl
@[simp] theorem State.withdrawReads_update : (s.withdrawReads gone).update = s.update := rfl
@[simp] theorem State.withdrawReads_deadlines : (s.withdrawReads gone).deadlines = s.deadlines := rfl
@[simp] theorem State.withdrawReads_timer : (s.withdrawReads gone).timer = s.timer := rfl
@[simp] theorem State.withdrawReads_command : (s.withdrawReads gone).command = s.command := rfl
@[simp] theorem State.withdrawReads_requests : (s.withdrawReads gone).requests = s.requests := rfl
@[simp] theorem State.withdrawReads_replies : (s.withdrawReads gone).replies = s.replies := rfl
@[simp] theorem State.withdrawReads_reports : (s.withdrawReads gone).reports = s.reports := rfl
@[simp] theorem State.withdrawReads_sending : (s.withdrawReads gone).sending = s.sending := rfl
@[simp] theorem State.withdrawReads_sweep : (s.withdrawReads gone).sweep = s.sweep := rfl
@[simp] theorem State.withdrawReads_port : (s.withdrawReads gone).port = s.port := rfl
@[simp] theorem State.withdrawReads_alert : (s.withdrawReads gone).alert = s.alert := rfl
@[simp] theorem State.withdrawReads_pending : (s.withdrawReads gone).pending = s.pending := rfl
@[simp] theorem State.withdrawReads_lane (k : LaneId): State.lane (s.withdrawReads gone) k = State.lane s k := rfl
@[simp] theorem State.withdrawReads_profileEntry (k : ProfileId): State.profileEntry (s.withdrawReads gone) k = State.profileEntry s k := rfl
@[simp] theorem State.withdrawReads_profile (k : ProfileId): State.profile (s.withdrawReads gone) k = State.profile s k := rfl
@[simp] theorem State.withdrawReads_now : (s.withdrawReads gone).now = s.now := rfl
@[simp] theorem State.withdrawReads_reportRoom : (s.withdrawReads gone).reportRoom = s.reportRoom := rfl

end

/-! ### Read after write -/

@[simp] theorem State.lane_setLane_same (s : State) (l : LaneId) (x : Lane) : (s.setLane l x).lane l = x := by
  simp [State.lane, State.setLane]

theorem State.lane_setLane_other (s : State) {l k : LaneId} (x : Lane) (h : k ≠ l) : (s.setLane l x).lane k = s.lane k := by
  simp [State.lane, State.setLane, Fin.val_inj, Ne.symm h]

@[simp] theorem State.bank_setBank_same (s : State) (b : BankId) (x : Bank) : (s.setBank b x).bank b = x := by
  simp [State.bank, State.setBank]

theorem State.bank_setBank_other (s : State) {b k : BankId} (x : Bank) (h : k ≠ b) : (s.setBank b x).bank k = s.bank k := by
  simp [State.bank, State.setBank, Fin.val_inj, Ne.symm h]

@[simp] theorem State.profileEntry_set_same (s : State) (p : ProfileId) (x : ProfileEntry) :
    (s.setProfileEntry p x).profileEntry p = x := by
  simp [State.profileEntry, State.setProfileEntry]

theorem State.profileEntry_set_other (s : State) {p k : ProfileId} (x : ProfileEntry) (h : k ≠ p) :
    (s.setProfileEntry p x).profileEntry k = s.profileEntry k := by
  simp [State.profileEntry, State.setProfileEntry, Fin.val_inj, Ne.symm h]

theorem State.lane_setLane (s : State) (l k : LaneId) (x : Lane) :
    (s.setLane l x).lane k = if k = l then x else s.lane k := by
  split
  · next h => subst h; simp
  · next h => exact s.lane_setLane_other x h

theorem State.bank_setBank (s : State) (b k : BankId) (x : Bank) :
    (s.setBank b x).bank k = if k = b then x else s.bank k := by
  split
  · next h => subst h; simp
  · next h => exact s.bank_setBank_other x h

theorem State.profileEntry_set (s : State) (p k : ProfileId) (x : ProfileEntry) :
    (s.setProfileEntry p x).profileEntry k = if k = p then x else s.profileEntry k := by
  split
  · next h => subst h; simp
  · next h => exact s.profileEntry_set_other x h

@[simp] theorem State.bank_withdrawReads (s : State) (gone : Requester → Bool) (k : BankId) :
    (s.withdrawReads gone).bank k = (s.bank k).withdraw gone := by
  simp [State.bank, State.withdrawReads]

@[simp] theorem Bank.withdraw_array (b : Bank) (gone : Requester → Bool) : (b.withdraw gone).array = b.array := rfl
@[simp] theorem Bank.withdraw_queue (b : Bank) (gone : Requester → Bool) : (b.withdraw gone).queue = b.queue := rfl
@[simp] theorem Bank.withdraw_image (b : Bank) (gone : Requester → Bool) (n : Nat) :
    (b.withdraw gone).image n = b.image n := rfl
@[simp] theorem State.record_withdrawReads (s : State) (gone : Requester → Bool) (n : Nat) :
    (s.withdrawReads gone).record n = s.record n := by
  simp [State.record]

/-- Two states with the same banks, as far as arrays and posted images go, hold the same records. -/
theorem State.record_congr {s t : State} (h : ∀ k, (t.bank k).queue = (s.bank k).queue ∧ (t.bank k).array = (s.bank k).array)
    (n : Nat) : t.record n = s.record n := by
  simp [State.record, Bank.image, (h _).1, (h _).2]

end Sys2Proof.Machine
end

