-- ==== Sys2Proof/Laws/Link.lean ====
section
/-! SUPPORT. What the shared operations of the station link and the symbol port can do: choosing a frame, offering reports,
answering requests, handing units over. Each changes only the fields its equation names. -/

namespace Sys2Proof.Machine

/-! ### Choosing a frame (R169) -/

/-- The outgoing direction changes only itself and the report queue. -/
theorem State.startSending_eq (s : State) :
    s.startSending = { s with reports := s.startSending.reports, sending := s.startSending.sending } := by
  unfold State.startSending
  repeat' split
  all_goals rfl

/-- A busy direction goes on with its frame. -/
theorem State.startSending_busy {s : State} {f : OutFrame} (h : s.sending = some f) : s.startSending = s := by
  simp [State.startSending, h]

/-- A free direction sends a due reply first. -/
theorem State.startSending_reply {s : State} {r : Reply} (h : s.sending = none) (hr : dueReply s.replies = some r) :
    s.startSending = { s with sending := some (.reply r) } := by
  simp [State.startSending, h, hr]

/-- With no reply due, a free direction takes the report at the head. -/
theorem State.startSending_report {s : State} {r : Report} {rest : List Report} (h : s.sending = none)
    (hr : dueReply s.replies = none) (hq : s.reports = r :: rest) :
    s.startSending = { s with sending := some (.report r), reports := rest } := by
  simp [State.startSending, h, hr, hq]

/-- With neither, it stays free. -/
theorem State.startSending_idle {s : State} (hr : dueReply s.replies = none) (hq : s.reports = []) :
    s.startSending = s := by
  unfold State.startSending
  split
  · rfl
  · simp [hr, hq]

/-- A chosen report leaves the queue; the queue never grows. -/
theorem State.startSending_reports_le (s : State) : s.startSending.reports.length ≤ s.reports.length := by
  unfold State.startSending
  repeat' split
  all_goals simp_all

section
variable (s : State)

@[simp] theorem State.startSending_clock : (s.startSending).clock = s.clock := by rw [State.startSending_eq]
@[simp] theorem State.startSending_lanes : (s.startSending).lanes = s.lanes := by rw [State.startSending_eq]
@[simp] theorem State.startSending_tagMap : (s.startSending).tagMap = s.tagMap := by rw [State.startSending_eq]
@[simp] theorem State.startSending_banks : (s.startSending).banks = s.banks := by rw [State.startSending_eq]
@[simp] theorem State.startSending_profiles : (s.startSending).profiles = s.profiles := by rw [State.startSending_eq]
@[simp] theorem State.startSending_update : (s.startSending).update = s.update := by rw [State.startSending_eq]
@[simp] theorem State.startSending_deadlines : (s.startSending).deadlines = s.deadlines := by rw [State.startSending_eq]
@[simp] theorem State.startSending_timer : (s.startSending).timer = s.timer := by rw [State.startSending_eq]
@[simp] theorem State.startSending_command : (s.startSending).command = s.command := by rw [State.startSending_eq]
@[simp] theorem State.startSending_requests : (s.startSending).requests = s.requests := by rw [State.startSending_eq]
@[simp] theorem State.startSending_replies : (s.startSending).replies = s.replies := by rw [State.startSending_eq]
@[simp] theorem State.startSending_sweep : (s.startSending).sweep = s.sweep := by rw [State.startSending_eq]
@[simp] theorem State.startSending_port : (s.startSending).port = s.port := by rw [State.startSending_eq]
@[simp] theorem State.startSending_alert : (s.startSending).alert = s.alert := by rw [State.startSending_eq]
@[simp] theorem State.startSending_pending : (s.startSending).pending = s.pending := by rw [State.startSending_eq]
@[simp] theorem State.startSending_lane (k : LaneId) : (s.startSending).lane k = s.lane k := by simp [State.lane]
@[simp] theorem State.startSending_bank (k : BankId) : (s.startSending).bank k = s.bank k := by simp [State.bank]
@[simp] theorem State.startSending_profileEntry (k : ProfileId) : (s.startSending).profileEntry k = s.profileEntry k := by simp [State.profileEntry]
@[simp] theorem State.startSending_profile (k : ProfileId) : (s.startSending).profile k = s.profile k := by simp [State.profile]
@[simp] theorem State.startSending_record (n : Nat) : (s.startSending).record n = s.record n := by simp [State.record]
@[simp] theorem State.startSending_now : (s.startSending).now = s.now := by simp [State.now]

end

/-! ### Offering a report (R170) -/

/-- Room in the report queue (R170). -/
theorem State.reportRoom_iff (s : State) : s.reportRoom = true ↔ s.reports.length < 64 := by
  simp only [State.reportRoom, decide_eq_true_eq]; exact Iff.rfl
theorem State.reportRoom_false (s : State) : s.reportRoom = false ↔ 64 ≤ s.reports.length := by
  rw [Bool.eq_false_iff, Ne, State.reportRoom_iff, Nat.not_lt]

/-- Offering a report changes only the report queue, the outgoing direction and the flags. -/
theorem State.offer_eq (s : State) (r : Report) :
    s.offer r = { s with reports := (s.offer r).reports, sending := (s.offer r).sending, alert := (s.offer r).alert } := by
  unfold State.offer
  split
  · rw [State.startSending_eq]
  · rfl

/-- With room, the report enters at the tail and the free direction chooses. -/
theorem State.offer_room {s : State} (r : Report) (h : s.reportRoom = true) :
    s.offer r = State.startSending { s with reports := s.reports ++ [r] } := by
  simp [State.offer, h]

/-- Without room, the report is dropped and REPORT_DROPPED raised. -/
theorem State.offer_full {s : State} (r : Report) (h : s.reportRoom = false) : s.offer r = s.raise .reportDropped := by
  simp [State.offer, h]

/-- A report that enters leaves the alert unit alone; a dropped one raises REPORT_DROPPED in it. -/
theorem State.offer_alert (s : State) (r : Report) :
    (s.offer r).alert = if s.reportRoom then s.alert else s.alert.raise .reportDropped := by
  unfold State.offer
  split
  · simp
  · simp [State.raise]

/-- A frame being sent goes on. -/
theorem State.offer_sending {s : State} {f : OutFrame} (r : Report) (h : s.sending = some f) :
    (s.offer r).sending = some f := by
  unfold State.offer
  split
  · rw [State.startSending_busy (f := f)] <;> simpa
  · simpa using h

section
variable (s : State) (r : Report)

@[simp] theorem State.offer_clock : (s.offer r).clock = s.clock := by rw [State.offer_eq]
@[simp] theorem State.offer_lanes : (s.offer r).lanes = s.lanes := by rw [State.offer_eq]
@[simp] theorem State.offer_tagMap : (s.offer r).tagMap = s.tagMap := by rw [State.offer_eq]
@[simp] theorem State.offer_banks : (s.offer r).banks = s.banks := by rw [State.offer_eq]
@[simp] theorem State.offer_profiles : (s.offer r).profiles = s.profiles := by rw [State.offer_eq]
@[simp] theorem State.offer_update : (s.offer r).update = s.update := by rw [State.offer_eq]
@[simp] theorem State.offer_deadlines : (s.offer r).deadlines = s.deadlines := by rw [State.offer_eq]
@[simp] theorem State.offer_timer : (s.offer r).timer = s.timer := by rw [State.offer_eq]
@[simp] theorem State.offer_command : (s.offer r).command = s.command := by rw [State.offer_eq]
@[simp] theorem State.offer_requests : (s.offer r).requests = s.requests := by rw [State.offer_eq]
@[simp] theorem State.offer_replies : (s.offer r).replies = s.replies := by rw [State.offer_eq]
@[simp] theorem State.offer_sweep : (s.offer r).sweep = s.sweep := by rw [State.offer_eq]
@[simp] theorem State.offer_port : (s.offer r).port = s.port := by rw [State.offer_eq]
@[simp] theorem State.offer_pending : (s.offer r).pending = s.pending := by rw [State.offer_eq]
@[simp] theorem State.offer_lane (k : LaneId) : (s.offer r).lane k = s.lane k := by simp [State.lane]
@[simp] theorem State.offer_bank (k : BankId) : (s.offer r).bank k = s.bank k := by simp [State.bank]
@[simp] theorem State.offer_profileEntry (k : ProfileId) : (s.offer r).profileEntry k = s.profileEntry k := by simp [State.profileEntry]
@[simp] theorem State.offer_profile (k : ProfileId) : (s.offer r).profile k = s.profile k := by simp [State.profile]
@[simp] theorem State.offer_record (n : Nat) : (s.offer r).record n = s.record n := by simp [State.record]
@[simp] theorem State.offer_now : (s.offer r).now = s.now := by simp [State.now]

end

/-! ### Offering several, and under a hold (R105, R171) -/

/-- `offerAll` one at a time. -/
theorem State.offerAll_cons (x : Report) (rs : List Report) (s : State) : s.offerAll (x :: rs) = (s.offer x).offerAll rs := rfl

@[simp] theorem State.offerAll_clock (rs : List Report) (s : State) : (s.offerAll rs).clock = s.clock := by
  induction rs generalizing s with
  | nil => rfl
  | cons x rest ih => rw [State.offerAll_cons, ih, State.offer_clock]
@[simp] theorem State.offerAll_lanes (rs : List Report) (s : State) : (s.offerAll rs).lanes = s.lanes := by
  induction rs generalizing s with
  | nil => rfl
  | cons x rest ih => rw [State.offerAll_cons, ih, State.offer_lanes]
@[simp] theorem State.offerAll_tagMap (rs : List Report) (s : State) : (s.offerAll rs).tagMap = s.tagMap := by
  induction rs generalizing s with
  | nil => rfl
  | cons x rest ih => rw [State.offerAll_cons, ih, State.offer_tagMap]
@[simp] theorem State.offerAll_banks (rs : List Report) (s : State) : (s.offerAll rs).banks = s.banks := by
  induction rs generalizing s with
  | nil => rfl
  | cons x rest ih => rw [State.offerAll_cons, ih, State.offer_banks]
@[simp] theorem State.offerAll_profiles (rs : List Report) (s : State) : (s.offerAll rs).profiles = s.profiles := by
  induction rs generalizing s with
  | nil => rfl
  | cons x rest ih => rw [State.offerAll_cons, ih, State.offer_profiles]
@[simp] theorem State.offerAll_update (rs : List Report) (s : State) : (s.offerAll rs).update = s.update := by
  induction rs generalizing s with
  | nil => rfl
  | cons x rest ih => rw [State.offerAll_cons, ih, State.offer_update]
@[simp] theorem State.offerAll_deadlines (rs : List Report) (s : State) : (s.offerAll rs).deadlines = s.deadlines := by
  induction rs generalizing s with
  | nil => rfl
  | cons x rest ih => rw [State.offerAll_cons, ih, State.offer_deadlines]
@[simp] theorem State.offerAll_timer (rs : List Report) (s : State) : (s.offerAll rs).timer = s.timer := by
  induction rs generalizing s with
  | nil => rfl
  | cons x rest ih => rw [State.offerAll_cons, ih, State.offer_timer]
@[simp] theorem State.offerAll_command (rs : List Report) (s : State) : (s.offerAll rs).command = s.command := by
  induction rs generalizing s with
  | nil => rfl
  | cons x rest ih => rw [State.offerAll_cons, ih, State.offer_command]
@[simp] theorem State.offerAll_requests (rs : List Report) (s : State) : (s.offerAll rs).requests = s.requests := by
  induction rs generalizing s with
  | nil => rfl
  | cons x rest ih => rw [State.offerAll_cons, ih, State.offer_requests]
@[simp] theorem State.offerAll_replies (rs : List Report) (s : State) : (s.offerAll rs).replies = s.replies := by
  induction rs generalizing s with
  | nil => rfl
  | cons x rest ih => rw [State.offerAll_cons, ih, State.offer_replies]
@[simp] theorem State.offerAll_sweep (rs : List Report) (s : State) : (s.offerAll rs).sweep = s.sweep := by
  induction rs generalizing s with
  | nil => rfl
  | cons x rest ih => rw [State.offerAll_cons, ih, State.offer_sweep]
@[simp] theorem State.offerAll_port (rs : List Report) (s : State) : (s.offerAll rs).port = s.port := by
  induction rs generalizing s with
  | nil => rfl
  | cons x rest ih => rw [State.offerAll_cons, ih, State.offer_port]
@[simp] theorem State.offerAll_pending (rs : List Report) (s : State) : (s.offerAll rs).pending = s.pending := by
  induction rs generalizing s with
  | nil => rfl
  | cons x rest ih => rw [State.offerAll_cons, ih, State.offer_pending]
@[simp] theorem State.offerAll_lane (rs : List Report) (s : State) (k : LaneId) : (s.offerAll rs).lane k = s.lane k := by simp [State.lane]
@[simp] theorem State.offerAll_bank (rs : List Report) (s : State) (k : BankId) : (s.offerAll rs).bank k = s.bank k := by simp [State.bank]
@[simp] theorem State.offerAll_profileEntry (rs : List Report) (s : State) (k : ProfileId) : (s.offerAll rs).profileEntry k = s.profileEntry k := by simp [State.profileEntry]
@[simp] theorem State.offerAll_profile (rs : List Report) (s : State) (k : ProfileId) : (s.offerAll rs).profile k = s.profile k := by simp [State.profile]
@[simp] theorem State.offerAll_record (rs : List Report) (s : State) (n : Nat) : (s.offerAll rs).record n = s.record n := by simp [State.record]
@[simp] theorem State.offerAll_now (rs : List Report) (s : State) : (s.offerAll rs).now = s.now := by simp [State.now]

section
variable (s : State) (g : GapTrack) (make : Bool → Report)

@[simp] theorem State.offerHeld_clock : (State.offerHeld make (s, g)).1.clock = s.clock := by unfold State.offerHeld; split <;> simp
@[simp] theorem State.offerHeld_lanes : (State.offerHeld make (s, g)).1.lanes = s.lanes := by unfold State.offerHeld; split <;> simp
@[simp] theorem State.offerHeld_tagMap : (State.offerHeld make (s, g)).1.tagMap = s.tagMap := by unfold State.offerHeld; split <;> simp
@[simp] theorem State.offerHeld_banks : (State.offerHeld make (s, g)).1.banks = s.banks := by unfold State.offerHeld; split <;> simp
@[simp] theorem State.offerHeld_profiles : (State.offerHeld make (s, g)).1.profiles = s.profiles := by unfold State.offerHeld; split <;> simp
@[simp] theorem State.offerHeld_update : (State.offerHeld make (s, g)).1.update = s.update := by unfold State.offerHeld; split <;> simp
@[simp] theorem State.offerHeld_deadlines : (State.offerHeld make (s, g)).1.deadlines = s.deadlines := by unfold State.offerHeld; split <;> simp
@[simp] theorem State.offerHeld_timer : (State.offerHeld make (s, g)).1.timer = s.timer := by unfold State.offerHeld; split <;> simp
@[simp] theorem State.offerHeld_command : (State.offerHeld make (s, g)).1.command = s.command := by unfold State.offerHeld; split <;> simp
@[simp] theorem State.offerHeld_requests : (State.offerHeld make (s, g)).1.requests = s.requests := by unfold State.offerHeld; split <;> simp
@[simp] theorem State.offerHeld_replies : (State.offerHeld make (s, g)).1.replies = s.replies := by unfold State.offerHeld; split <;> simp
@[simp] theorem State.offerHeld_sweep : (State.offerHeld make (s, g)).1.sweep = s.sweep := by unfold State.offerHeld; split <;> simp
@[simp] theorem State.offerHeld_port : (State.offerHeld make (s, g)).1.port = s.port := by unfold State.offerHeld; split <;> simp
@[simp] theorem State.offerHeld_pending : (State.offerHeld make (s, g)).1.pending = s.pending := by unfold State.offerHeld; split <;> simp
@[simp] theorem State.offerHeld_lane (k : LaneId) : (State.offerHeld make (s, g)).1.lane k = s.lane k := by simp [State.lane]
@[simp] theorem State.offerHeld_bank (k : BankId) : (State.offerHeld make (s, g)).1.bank k = s.bank k := by simp [State.bank]
@[simp] theorem State.offerHeld_profileEntry (k : ProfileId) : (State.offerHeld make (s, g)).1.profileEntry k = s.profileEntry k := by simp [State.profileEntry]
@[simp] theorem State.offerHeld_profile (k : ProfileId) : (State.offerHeld make (s, g)).1.profile k = s.profile k := by simp [State.profile]
@[simp] theorem State.offerHeld_record (n : Nat) : (State.offerHeld make (s, g)).1.record n = s.record n := by simp [State.record]
@[simp] theorem State.offerHeld_now : (State.offerHeld make (s, g)).1.now = s.now := by simp [State.now]

end

/-- The gap mark while reports are offered: with room the report enters with the mark owed, and clears the flag with it. -/
theorem State.offerHeld_room {sg : State × GapTrack} (make : Bool → Report) (h : sg.1.reportRoom = true) :
    State.offerHeld make sg =
      (sg.1.offer (make sg.2.owed), { owed := false, flag := if sg.2.owed then false else sg.2.flag }) := by
  simp [State.offerHeld, h]

/-- Without room the report is dropped and the flag set. -/
theorem State.offerHeld_full {sg : State × GapTrack} (make : Bool → Report) (h : sg.1.reportRoom = false) :
    State.offerHeld make sg = (sg.1.raise .reportDropped, { sg.2 with flag := true }) := by
  simp [State.offerHeld, h, State.offer_full]

/-- The state after offering under a hold is the state after offering one report. -/
theorem State.offerHeld_fst (make : Bool → Report) (sg : State × GapTrack) :
    ∃ gap, (State.offerHeld make sg).1 = sg.1.offer (make gap) := by
  unfold State.offerHeld
  split
  · exact ⟨_, rfl⟩
  · exact ⟨_, rfl⟩

/-- The first report offered under a hold: it carries the image's flag, and the flag left is whether it was dropped. -/
theorem State.offerHeld_start (s : State) (image : Record) (make : Bool → Report) :
    State.offerHeld make (s, GapTrack.start image) =
      (s.offer (make image.gap),
        { owed := if s.reports.length < 64 then false else image.gap, flag := decide (64 ≤ s.reports.length) }) := by
  by_cases h : s.reports.length < 64
  · rw [State.offerHeld_room _ ((State.reportRoom_iff s).2 h)]
    have h64 : ¬ 64 ≤ s.reports.length := by omega
    cases hg : image.gap <;> simp [GapTrack.start, h, h64, hg]
  · have h64 : 64 ≤ s.reports.length := by omega
    rw [State.offerHeld_full _ ((State.reportRoom_false s).2 h64), State.offer_full _ ((State.reportRoom_false s).2 h64)]
    simp [GapTrack.start, h, h64]

/-! ### Answering a request (R167) -/

/-- An answer changes only the command engine, the reply order, the report queue and the outgoing direction. -/
theorem State.answer_eq (s : State) (status : Status) (body : ReplyBody) :
    s.answer status body =
      { s with command := .idle, replies := fillReply status body s.replies
               reports := (s.answer status body).reports, sending := (s.answer status body).sending } := by
  unfold State.answer
  rw [State.startSending_eq]

/-- The oldest open entry is the one filled. -/
theorem fillReply_append (status : Status) (body : ReplyBody) (done rest : List ReplyEntry)
    (h : ∀ x ∈ done, x.reply ≠ none) :
    fillReply status body (done ++ rest) = done ++ fillReply status body rest := by
  induction done with
  | nil => rfl
  | cons x done ih =>
    have hx : x.reply ≠ none := h x (by simp)
    cases hr : x.reply with
    | none => exact absurd hr hx
    | some r => simp [fillReply, hr, ih fun y hy => h y (by simp [hy])]

/-- Filling a reply keeps the length of the reply order. -/
@[simp] theorem fillReply_length (status : Status) (body : ReplyBody) (l : List ReplyEntry) :
    (fillReply status body l).length = l.length := by
  induction l with
  | nil => rfl
  | cons e rest ih => unfold fillReply; split <;> simp_all

section
variable (s : State) (status : Status) (body : ReplyBody)

@[simp] theorem State.answer_clock : (s.answer status body).clock = s.clock := by rw [State.answer_eq]
@[simp] theorem State.answer_lanes : (s.answer status body).lanes = s.lanes := by rw [State.answer_eq]
@[simp] theorem State.answer_tagMap : (s.answer status body).tagMap = s.tagMap := by rw [State.answer_eq]
@[simp] theorem State.answer_banks : (s.answer status body).banks = s.banks := by rw [State.answer_eq]
@[simp] theorem State.answer_profiles : (s.answer status body).profiles = s.profiles := by rw [State.answer_eq]
@[simp] theorem State.answer_update : (s.answer status body).update = s.update := by rw [State.answer_eq]
@[simp] theorem State.answer_deadlines : (s.answer status body).deadlines = s.deadlines := by rw [State.answer_eq]
@[simp] theorem State.answer_timer : (s.answer status body).timer = s.timer := by rw [State.answer_eq]
@[simp] theorem State.answer_requests : (s.answer status body).requests = s.requests := by rw [State.answer_eq]
@[simp] theorem State.answer_sweep : (s.answer status body).sweep = s.sweep := by rw [State.answer_eq]
@[simp] theorem State.answer_port : (s.answer status body).port = s.port := by rw [State.answer_eq]
@[simp] theorem State.answer_alert : (s.answer status body).alert = s.alert := by rw [State.answer_eq]
@[simp] theorem State.answer_pending : (s.answer status body).pending = s.pending := by rw [State.answer_eq]
@[simp] theorem State.answer_lane (k : LaneId) : (s.answer status body).lane k = s.lane k := by simp [State.lane]
@[simp] theorem State.answer_bank (k : BankId) : (s.answer status body).bank k = s.bank k := by simp [State.bank]
@[simp] theorem State.answer_profileEntry (k : ProfileId) : (s.answer status body).profileEntry k = s.profileEntry k := by simp [State.profileEntry]
@[simp] theorem State.answer_profile (k : ProfileId) : (s.answer status body).profile k = s.profile k := by simp [State.profile]
@[simp] theorem State.answer_record (n : Nat) : (s.answer status body).record n = s.record n := by simp [State.record]
@[simp] theorem State.answer_now : (s.answer status body).now = s.now := by simp [State.now]

end

section
variable (s : State) (status : Status)

@[simp] theorem State.refuse_clock : (s.refuse status).clock = s.clock := by simp [State.refuse]
@[simp] theorem State.refuse_lanes : (s.refuse status).lanes = s.lanes := by simp [State.refuse]
@[simp] theorem State.refuse_tagMap : (s.refuse status).tagMap = s.tagMap := by simp [State.refuse]
@[simp] theorem State.refuse_banks : (s.refuse status).banks = s.banks := by simp [State.refuse]
@[simp] theorem State.refuse_profiles : (s.refuse status).profiles = s.profiles := by simp [State.refuse]
@[simp] theorem State.refuse_update : (s.refuse status).update = s.update := by simp [State.refuse]
@[simp] theorem State.refuse_deadlines : (s.refuse status).deadlines = s.deadlines := by simp [State.refuse]
@[simp] theorem State.refuse_timer : (s.refuse status).timer = s.timer := by simp [State.refuse]
@[simp] theorem State.refuse_requests : (s.refuse status).requests = s.requests := by simp [State.refuse]
@[simp] theorem State.refuse_sweep : (s.refuse status).sweep = s.sweep := by simp [State.refuse]
@[simp] theorem State.refuse_port : (s.refuse status).port = s.port := by simp [State.refuse]
@[simp] theorem State.refuse_alert : (s.refuse status).alert = s.alert := by simp [State.refuse]
@[simp] theorem State.refuse_pending : (s.refuse status).pending = s.pending := by simp [State.refuse]
@[simp] theorem State.refuse_lane (k : LaneId) : (s.refuse status).lane k = s.lane k := by simp [State.lane]
@[simp] theorem State.refuse_bank (k : BankId) : (s.refuse status).bank k = s.bank k := by simp [State.bank]
@[simp] theorem State.refuse_profileEntry (k : ProfileId) : (s.refuse status).profileEntry k = s.profileEntry k := by simp [State.profileEntry]
@[simp] theorem State.refuse_profile (k : ProfileId) : (s.refuse status).profile k = s.profile k := by simp [State.profile]
@[simp] theorem State.refuse_record (n : Nat) : (s.refuse status).record n = s.record n := by simp [State.record]
@[simp] theorem State.refuse_now : (s.refuse status).now = s.now := by simp [State.now]

end

/-- An answer leaves the command engine idle. -/
@[simp] theorem State.answer_command (s : State) (status : Status) (body : ReplyBody) :
    (s.answer status body).command = .idle := by rw [State.answer_eq]

/-- An answer fills the oldest open entry. -/
@[simp] theorem State.answer_replies (s : State) (status : Status) (body : ReplyBody) :
    (s.answer status body).replies = fillReply status body s.replies := by rw [State.answer_eq]

/-- A refusal is an answer without contents. -/
theorem State.refuse_eq (s : State) (status : Status) : s.refuse status = s.answer status .empty := rfl

/-! ### The symbol port (R81) -/

/-- `emitAll` one at a time. -/
theorem State.emitAll_cons (x : SymbolUnit) (us : List SymbolUnit) (s : State) : s.emitAll (x :: us) = (s.emit x).emitAll us := rfl

/-- Units handed over follow those that the port holds, in their order. -/
theorem State.emitAll_eq (us : List SymbolUnit) (s : State) : s.emitAll us = { s with port := s.port ++ us } := by
  induction us generalizing s with
  | nil => simp [State.emitAll]
  | cons x rest ih => rw [State.emitAll_cons, ih]; simp [State.emit]

@[simp] theorem State.emitAll_clock (us : List SymbolUnit) (s : State) : (s.emitAll us).clock = s.clock := by
  induction us generalizing s with
  | nil => rfl
  | cons x rest ih => rw [State.emitAll_cons, ih, State.emit_clock]
@[simp] theorem State.emitAll_lanes (us : List SymbolUnit) (s : State) : (s.emitAll us).lanes = s.lanes := by
  induction us generalizing s with
  | nil => rfl
  | cons x rest ih => rw [State.emitAll_cons, ih, State.emit_lanes]
@[simp] theorem State.emitAll_tagMap (us : List SymbolUnit) (s : State) : (s.emitAll us).tagMap = s.tagMap := by
  induction us generalizing s with
  | nil => rfl
  | cons x rest ih => rw [State.emitAll_cons, ih, State.emit_tagMap]
@[simp] theorem State.emitAll_banks (us : List SymbolUnit) (s : State) : (s.emitAll us).banks = s.banks := by
  induction us generalizing s with
  | nil => rfl
  | cons x rest ih => rw [State.emitAll_cons, ih, State.emit_banks]
@[simp] theorem State.emitAll_profiles (us : List SymbolUnit) (s : State) : (s.emitAll us).profiles = s.profiles := by
  induction us generalizing s with
  | nil => rfl
  | cons x rest ih => rw [State.emitAll_cons, ih, State.emit_profiles]
@[simp] theorem State.emitAll_update (us : List SymbolUnit) (s : State) : (s.emitAll us).update = s.update := by
  induction us generalizing s with
  | nil => rfl
  | cons x rest ih => rw [State.emitAll_cons, ih, State.emit_update]
@[simp] theorem State.emitAll_deadlines (us : List SymbolUnit) (s : State) : (s.emitAll us).deadlines = s.deadlines := by
  induction us generalizing s with
  | nil => rfl
  | cons x rest ih => rw [State.emitAll_cons, ih, State.emit_deadlines]
@[simp] theorem State.emitAll_timer (us : List SymbolUnit) (s : State) : (s.emitAll us).timer = s.timer := by
  induction us generalizing s with
  | nil => rfl
  | cons x rest ih => rw [State.emitAll_cons, ih, State.emit_timer]
@[simp] theorem State.emitAll_command (us : List SymbolUnit) (s : State) : (s.emitAll us).command = s.command := by
  induction us generalizing s with
  | nil => rfl
  | cons x rest ih => rw [State.emitAll_cons, ih, State.emit_command]
@[simp] theorem State.emitAll_requests (us : List SymbolUnit) (s : State) : (s.emitAll us).requests = s.requests := by
  induction us generalizing s with
  | nil => rfl
  | cons x rest ih => rw [State.emitAll_cons, ih, State.emit_requests]
@[simp] theorem State.emitAll_replies (us : List SymbolUnit) (s : State) : (s.emitAll us).replies = s.replies := by
  induction us generalizing s with
  | nil => rfl
  | cons x rest ih => rw [State.emitAll_cons, ih, State.emit_replies]
@[simp] theorem State.emitAll_reports (us : List SymbolUnit) (s : State) : (s.emitAll us).reports = s.reports := by
  induction us generalizing s with
  | nil => rfl
  | cons x rest ih => rw [State.emitAll_cons, ih, State.emit_reports]
@[simp] theorem State.emitAll_sending (us : List SymbolUnit) (s : State) : (s.emitAll us).sending = s.sending := by
  induction us generalizing s with
  | nil => rfl
  | cons x rest ih => rw [State.emitAll_cons, ih, State.emit_sending]
@[simp] theorem State.emitAll_sweep (us : List SymbolUnit) (s : State) : (s.emitAll us).sweep = s.sweep := by
  induction us generalizing s with
  | nil => rfl
  | cons x rest ih => rw [State.emitAll_cons, ih, State.emit_sweep]
@[simp] theorem State.emitAll_alert (us : List SymbolUnit) (s : State) : (s.emitAll us).alert = s.alert := by
  induction us generalizing s with
  | nil => rfl
  | cons x rest ih => rw [State.emitAll_cons, ih, State.emit_alert]
@[simp] theorem State.emitAll_pending (us : List SymbolUnit) (s : State) : (s.emitAll us).pending = s.pending := by
  induction us generalizing s with
  | nil => rfl
  | cons x rest ih => rw [State.emitAll_cons, ih, State.emit_pending]
@[simp] theorem State.emitAll_lane (us : List SymbolUnit) (s : State) (k : LaneId) : (s.emitAll us).lane k = s.lane k := by simp [State.lane]
@[simp] theorem State.emitAll_bank (us : List SymbolUnit) (s : State) (k : BankId) : (s.emitAll us).bank k = s.bank k := by simp [State.bank]
@[simp] theorem State.emitAll_profileEntry (us : List SymbolUnit) (s : State) (k : ProfileId) : (s.emitAll us).profileEntry k = s.profileEntry k := by simp [State.profileEntry]
@[simp] theorem State.emitAll_profile (us : List SymbolUnit) (s : State) (k : ProfileId) : (s.emitAll us).profile k = s.profile k := by simp [State.profile]
@[simp] theorem State.emitAll_record (us : List SymbolUnit) (s : State) (n : Nat) : (s.emitAll us).record n = s.record n := by simp [State.record]
@[simp] theorem State.emitAll_now (us : List SymbolUnit) (s : State) : (s.emitAll us).now = s.now := by simp [State.now]

/-- Units handed over follow those before them, in their order. -/
@[simp] theorem State.emitAll_port (us : List SymbolUnit) (s : State) : (s.emitAll us).port = s.port ++ us := by
  induction us generalizing s with
  | nil => simp [State.emitAll]
  | cons x rest ih => rw [State.emitAll_cons, ih]; simp [State.emit]

end Sys2Proof.Machine
end

