-- ==== Sys2Proof/Laws/Store.lean ====
section
/-! SUPPORT. What the shared operations of the station table store can do: the canonical arrays, the newest image, the
arbiter, read requests, a bank that falls free, and posts. -/

namespace Sys2Proof.Machine

/-! ### The canonical arrays (R28, R35) -/

/-- Every key of a list whose keys lie above a bound lies above it. -/
theorem keysAbove_lt {α : Type} {l : List (Nat × α)} {b : Nat} (h : keysAbove (some b) l = true) :
    ∀ e ∈ l, b < e.1 := by
  induction l generalizing b with
  | nil => simp
  | cons e rest ih =>
    obtain ⟨k, v⟩ := e
    simp only [keysAbove, Bool.and_eq_true, decide_eq_true_eq] at h
    intro e he
    rcases List.mem_cons.1 he with rfl | he
    · exact h.1
    · exact Nat.lt_trans h.1 (ih h.2 e he)

/-- A lower bound may be lowered, or dropped. -/
theorem keysAbove_weaken {α : Type} {l : List (Nat × α)} {b : Nat} (h : keysAbove (some b) l = true) :
    keysAbove none l = true ∧ ∀ c, c ≤ b → keysAbove (some c) l = true := by
  cases l with
  | nil => simp [keysAbove]
  | cons e rest =>
    obtain ⟨k, v⟩ := e
    simp only [keysAbove, Bool.and_eq_true, decide_eq_true_eq] at h ⊢
    exact ⟨⟨trivial, h.2⟩, fun c hc => ⟨by omega, h.2⟩⟩

/-- A canonical array lists no slot twice: a slot below every key reads as the reset record. -/
theorem tableRead_of_keysAbove {l : List (Nat × Record)} {slot : Nat} (h : keysAbove (some slot) l = true) :
    tableRead l slot = Record.atReset := by
  induction l with
  | nil => rfl
  | cons e rest ih =>
    obtain ⟨k, v⟩ := e
    simp only [keysAbove, Bool.and_eq_true, decide_eq_true_eq] at h
    have hk : k ≠ slot := by omega
    simp only [tableRead, hk, if_false]
    exact ih ((keysAbove_weaken h.2).2 slot (by omega))

/-- The head of a rising list, and what follows it. -/
theorem keysAbove_cons {α : Type} {bound : Option Nat} {k : Nat} {v : α} {rest : List (Nat × α)} :
    keysAbove bound ((k, v) :: rest) = true ↔ (∀ b, bound = some b → b < k) ∧ keysAbove (some k) rest = true := by
  cases bound <;> simp [keysAbove]

/-- A write keeps every bound below the slot and the keys. -/
theorem keysAbove_tableWrite {l : List (Nat × Record)} {slot : Nat} {image : Record} {bound : Option Nat}
    (hb : ∀ b, bound = some b → b < slot) (h : keysAbove bound l = true) :
    keysAbove bound (tableWrite slot image l) = true := by
  induction l generalizing bound with
  | nil =>
    unfold tableWrite tableCons
    split
    · rfl
    · exact keysAbove_cons.2 ⟨hb, rfl⟩
  | cons e rest ih =>
    obtain ⟨k, v⟩ := e
    have hk := keysAbove_cons.1 h
    unfold tableWrite
    by_cases h1 : slot < k
    · simp only [h1, if_true]
      unfold tableCons
      split
      · exact h
      · exact keysAbove_cons.2 ⟨hb, keysAbove_cons.2 ⟨fun b hb' => by cases hb'; exact h1, hk.2⟩⟩
    · simp only [h1, if_false]
      by_cases h2 : slot = k
      · subst h2
        simp only [if_true]
        unfold tableCons
        split
        · cases bound with
          | none => exact (keysAbove_weaken hk.2).1
          | some b => exact (keysAbove_weaken hk.2).2 b (Nat.le_of_lt (hb b rfl))
        · exact keysAbove_cons.2 ⟨hb, hk.2⟩
      · simp only [h2, if_false]
        exact keysAbove_cons.2 ⟨hk.1, ih (fun b hb' => by cases hb'; omega) hk.2⟩

/-- A write lists no reset record. -/
theorem all_tableWrite {l : List (Nat × Record)} {slot : Nat} {image : Record}
    (h : ∀ e ∈ l, e.2 ≠ Record.atReset) : ∀ e ∈ tableWrite slot image l, e.2 ≠ Record.atReset := by
  induction l with
  | nil => unfold tableWrite tableCons; split <;> simp_all
  | cons x rest ih =>
    obtain ⟨k, v⟩ := x
    have ih := ih fun e he => h e (List.mem_cons_of_mem _ he)
    have hv : v ≠ Record.atReset := h (k, v) (by simp)
    have hr : ∀ e ∈ rest, e.2 ≠ Record.atReset := fun e he => h e (List.mem_cons_of_mem _ he)
    unfold tableWrite tableCons
    intro e he
    repeat' split at he
    all_goals
      try simp only [List.mem_cons] at he
      first
        | exact hr e he
        | (rcases he with rfl | he
           · assumption
           · first
              | exact hr e he
              | exact ih e he
              | (rcases he with rfl | he
                 · assumption
                 · exact hr e he))

/-- A write keeps the canonical form of an array (R35). -/
theorem tableWf_tableWrite {l : List (Nat × Record)} (slot : Nat) (image : Record) (h : tableWf l = true) :
    tableWf (tableWrite slot image l) = true := by
  simp only [tableWf, Bool.and_eq_true, List.all_eq_true, decide_eq_true_eq] at h ⊢
  exact ⟨keysAbove_tableWrite (fun b hb => by cases hb) h.1, all_tableWrite h.2⟩

theorem tableRead_tableWrite_aux {l : List (Nat × Record)} {bound : Option Nat} (slot n : Nat) (image : Record)
    (h : keysAbove bound l = true) :
    tableRead (tableWrite slot image l) n = if n = slot then image else tableRead l n := by
  induction l generalizing bound with
  | nil =>
    unfold tableWrite tableCons
    split
    · next hi => simp [tableRead, hi]
    · by_cases hn : n = slot
      · subst hn; simp [tableRead]
      · simp [tableRead, hn, Ne.symm hn]
  | cons e rest ih =>
    obtain ⟨k, v⟩ := e
    have hk : keysAbove (some k) rest = true := (keysAbove_cons.1 h).2
    unfold tableWrite
    by_cases h1 : slot < k
    · simp only [h1, if_true]
      unfold tableCons
      split
      · next hi =>
        by_cases hn : n = slot
        · subst hn
          have : keysAbove (some n) ((k, v) :: rest) = true := by simp [keysAbove, h1, hk]
          simp [tableRead_of_keysAbove this, hi]
        · simp [hn]
      · by_cases hn : n = slot
        · subst hn; simp [tableRead]
        · simp [tableRead, hn, Ne.symm hn]
    · simp only [h1, if_false]
      by_cases h2 : slot = k
      · subst h2
        simp only [if_true]
        unfold tableCons
        split
        · next hi =>
          by_cases hn : n = slot
          · subst hn; simp [tableRead_of_keysAbove hk, hi]
          · simp [tableRead, hn, Ne.symm hn]
        · by_cases hn : n = slot
          · subst hn; simp [tableRead]
          · simp [tableRead, hn, Ne.symm hn]
      · simp only [h2, if_false, tableRead]
        by_cases hkn : k = n
        · subst hkn
          simp [Ne.symm h2]
        · simp only [hkn, if_false]
          exact ih hk

/-- A read after a write: the slot reads as written, every other slot as before (R28, R35). -/
theorem tableRead_tableWrite {l : List (Nat × Record)} (h : tableWf l = true) (slot n : Nat) (image : Record) :
    tableRead (tableWrite slot image l) n = if n = slot then image else tableRead l n := by
  simp only [tableWf, Bool.and_eq_true] at h
  exact tableRead_tableWrite_aux slot n image h.1

/-! ### The newest image (R36) -/

/-- A posted image is the newest of its slot; the others' newest stay. -/
theorem newestPosted_append (q : List Posted) (p : Posted) (n : Nat) :
    newestPosted (q ++ [p]) n = if p.slot = n then some p.image else newestPosted q n := by
  induction q with
  | nil => simp [newestPosted]
  | cons x rest ih =>
    simp only [List.cons_append, newestPosted, ih]
    by_cases h : p.slot = n <;> simp [h]

/-- Draining the oldest entry into a canonical array changes no newest image (R35, R36). -/
theorem Bank.image_drained {b : Bank} (h : tableWf b.array = true) (n : Nat) : b.drained.image n = b.image n := by
  unfold Bank.drained Bank.image
  split
  · rfl
  · next p rest hq =>
    simp only [hq, newestPosted, tableRead_tableWrite h]
    cases hr : newestPosted rest n with
    | some i => simp
    | none =>
      by_cases hn : p.slot = n
      · subst hn; simp
      · simp [hn, Ne.symm hn]

/-! ### The arbiter (R30) -/

/-- The arbiter takes one of the waiting reads, and none only when none waits. -/
theorem bestRead_mem {l : List ReadRequest} {r : ReadRequest} (h : bestRead l = some r) : r ∈ l := by
  induction l generalizing r with
  | nil => simp [bestRead] at h
  | cons x rest ih =>
    unfold bestRead at h
    split at h
    · simp_all
    · next b hb =>
      split at h
      · cases h; exact List.mem_cons_of_mem _ (ih hb)
      · simp_all

theorem bestRead_none {l : List ReadRequest} : bestRead l = none ↔ l = [] := by
  cases l with
  | nil => simp [bestRead]
  | cons x rest =>
    unfold bestRead
    split
    · simp
    · split <;> simp

@[simp] theorem Bank.grant_array (now : Time) (b : Bank) : (b.grant now).array = b.array := by
  unfold Bank.grant; repeat' split
  all_goals rfl
@[simp] theorem Bank.grant_queue (now : Time) (b : Bank) : (b.grant now).queue = b.queue := by
  unfold Bank.grant; repeat' split
  all_goals rfl
@[simp] theorem Bank.grant_image (now : Time) (b : Bank) (n : Nat) : (b.grant now).image n = b.image n := by
  simp [Bank.image]

/-- The arbiter's choice: the best waiting read with its image as it stands now, a drain, or nothing (R30, R35, R36). -/
theorem Bank.grant_cases (now : Time) (b : Bank) :
    (∃ r ∈ b.waiting, b.grant now = { b with access := .read (some r.who) r.slot (b.image r.slot) now
                                             waiting := b.waiting.erase r }) ∨
    (b.queue ≠ [] ∧ b.grant now = { b with access := .drain }) ∨
    (b.waiting = [] ∧ b.queue = [] ∧ b.grant now = b) := by
  unfold Bank.grant
  split
  · next r hr =>
    split
    · next hc =>
      refine .inr (.inl ⟨?_, rfl⟩)
      intro hq
      have := hc.2
      simp [hq, Config.postedWrites] at this
    · exact .inl ⟨r, bestRead_mem hr, rfl⟩
  · next hr =>
    rw [bestRead_none] at hr
    split
    · next hq => exact .inr (.inr ⟨hr, by simpa using hq, rfl⟩)
    · next hq => exact .inr (.inl ⟨by simpa using hq, rfl⟩)

/-- Arbitration changes at most the bank. -/
theorem State.arbitrate_eq (k : BankId) (s : State) :
    s.arbitrate k = s ∨ s.arbitrate k = s.setBank k ((s.bank k).grant s.now) := by
  unfold State.arbitrate
  split
  · exact .inr rfl
  · exact .inl rfl

section
variable (b : BankId) (s : State)

@[simp] theorem State.arbitrate_clock : (s.arbitrate b).clock = s.clock := by rcases State.arbitrate_eq b s with h | h <;> rw [h]; rfl
@[simp] theorem State.arbitrate_lanes : (s.arbitrate b).lanes = s.lanes := by rcases State.arbitrate_eq b s with h | h <;> rw [h]; rfl
@[simp] theorem State.arbitrate_tagMap : (s.arbitrate b).tagMap = s.tagMap := by rcases State.arbitrate_eq b s with h | h <;> rw [h]; rfl
@[simp] theorem State.arbitrate_profiles : (s.arbitrate b).profiles = s.profiles := by rcases State.arbitrate_eq b s with h | h <;> rw [h]; rfl
@[simp] theorem State.arbitrate_update : (s.arbitrate b).update = s.update := by rcases State.arbitrate_eq b s with h | h <;> rw [h]; rfl
@[simp] theorem State.arbitrate_deadlines : (s.arbitrate b).deadlines = s.deadlines := by rcases State.arbitrate_eq b s with h | h <;> rw [h]; rfl
@[simp] theorem State.arbitrate_timer : (s.arbitrate b).timer = s.timer := by rcases State.arbitrate_eq b s with h | h <;> rw [h]; rfl
@[simp] theorem State.arbitrate_command : (s.arbitrate b).command = s.command := by rcases State.arbitrate_eq b s with h | h <;> rw [h]; rfl
@[simp] theorem State.arbitrate_requests : (s.arbitrate b).requests = s.requests := by rcases State.arbitrate_eq b s with h | h <;> rw [h]; rfl
@[simp] theorem State.arbitrate_replies : (s.arbitrate b).replies = s.replies := by rcases State.arbitrate_eq b s with h | h <;> rw [h]; rfl
@[simp] theorem State.arbitrate_reports : (s.arbitrate b).reports = s.reports := by rcases State.arbitrate_eq b s with h | h <;> rw [h]; rfl
@[simp] theorem State.arbitrate_sending : (s.arbitrate b).sending = s.sending := by rcases State.arbitrate_eq b s with h | h <;> rw [h]; rfl
@[simp] theorem State.arbitrate_sweep : (s.arbitrate b).sweep = s.sweep := by rcases State.arbitrate_eq b s with h | h <;> rw [h]; rfl
@[simp] theorem State.arbitrate_port : (s.arbitrate b).port = s.port := by rcases State.arbitrate_eq b s with h | h <;> rw [h]; rfl
@[simp] theorem State.arbitrate_alert : (s.arbitrate b).alert = s.alert := by rcases State.arbitrate_eq b s with h | h <;> rw [h]; rfl
@[simp] theorem State.arbitrate_pending : (s.arbitrate b).pending = s.pending := by rcases State.arbitrate_eq b s with h | h <;> rw [h]; rfl
@[simp] theorem State.arbitrate_lane (k : LaneId) : (s.arbitrate b).lane k = s.lane k := by simp [State.lane]
@[simp] theorem State.arbitrate_profileEntry (k : ProfileId) : (s.arbitrate b).profileEntry k = s.profileEntry k := by simp [State.profileEntry]
@[simp] theorem State.arbitrate_profile (k : ProfileId) : (s.arbitrate b).profile k = s.profile k := by simp [State.profile]
@[simp] theorem State.arbitrate_now : (s.arbitrate b).now = s.now := by simp [State.now]

end

/-- Arbitration leaves arrays and posted images, and with them every record. -/
@[simp] theorem State.arbitrate_array (k j : BankId) (s : State) :
    ((s.arbitrate k).bank j).array = (s.bank j).array := by
  rcases State.arbitrate_eq k s with h | h <;> rw [h]
  rw [State.bank_setBank]; split
  · next e => subst e; simp
  · rfl
@[simp] theorem State.arbitrate_queue (k j : BankId) (s : State) :
    ((s.arbitrate k).bank j).queue = (s.bank j).queue := by
  rcases State.arbitrate_eq k s with h | h <;> rw [h]
  rw [State.bank_setBank]; split
  · next e => subst e; simp
  · rfl
@[simp] theorem State.arbitrate_record (k : BankId) (s : State) (n : Nat) : (s.arbitrate k).record n = s.record n :=
  State.record_congr (fun _ => ⟨by simp, by simp⟩) n
theorem State.arbitrate_other {k j : BankId} (h : j ≠ k) (s : State) : (s.arbitrate k).bank j = s.bank j := by
  rcases State.arbitrate_eq k s with e | e <;> rw [e]
  exact State.bank_setBank_other s _ h

/-! ### Asking for a read, and a bank that falls free (R28, R29) -/

section
variable (who : Requester) (slot : Nat) (s : State)

@[simp] theorem State.requestRead_clock : (s.requestRead who slot).clock = s.clock := by simp [State.requestRead]
@[simp] theorem State.requestRead_lanes : (s.requestRead who slot).lanes = s.lanes := by simp [State.requestRead]
@[simp] theorem State.requestRead_tagMap : (s.requestRead who slot).tagMap = s.tagMap := by simp [State.requestRead]
@[simp] theorem State.requestRead_profiles : (s.requestRead who slot).profiles = s.profiles := by simp [State.requestRead]
@[simp] theorem State.requestRead_update : (s.requestRead who slot).update = s.update := by simp [State.requestRead]
@[simp] theorem State.requestRead_deadlines : (s.requestRead who slot).deadlines = s.deadlines := by simp [State.requestRead]
@[simp] theorem State.requestRead_timer : (s.requestRead who slot).timer = s.timer := by simp [State.requestRead]
@[simp] theorem State.requestRead_command : (s.requestRead who slot).command = s.command := by simp [State.requestRead]
@[simp] theorem State.requestRead_requests : (s.requestRead who slot).requests = s.requests := by simp [State.requestRead]
@[simp] theorem State.requestRead_replies : (s.requestRead who slot).replies = s.replies := by simp [State.requestRead]
@[simp] theorem State.requestRead_reports : (s.requestRead who slot).reports = s.reports := by simp [State.requestRead]
@[simp] theorem State.requestRead_sending : (s.requestRead who slot).sending = s.sending := by simp [State.requestRead]
@[simp] theorem State.requestRead_sweep : (s.requestRead who slot).sweep = s.sweep := by simp [State.requestRead]
@[simp] theorem State.requestRead_port : (s.requestRead who slot).port = s.port := by simp [State.requestRead]
@[simp] theorem State.requestRead_alert : (s.requestRead who slot).alert = s.alert := by simp [State.requestRead]
@[simp] theorem State.requestRead_pending : (s.requestRead who slot).pending = s.pending := by simp [State.requestRead]
@[simp] theorem State.requestRead_lane (k : LaneId) : (s.requestRead who slot).lane k = s.lane k := by simp [State.lane]
@[simp] theorem State.requestRead_profileEntry (k : ProfileId) : (s.requestRead who slot).profileEntry k = s.profileEntry k := by simp [State.profileEntry]
@[simp] theorem State.requestRead_profile (k : ProfileId) : (s.requestRead who slot).profile k = s.profile k := by simp [State.profile]
@[simp] theorem State.requestRead_now : (s.requestRead who slot).now = s.now := by simp [State.now]

end

/-- A read request leaves arrays and posted images, and with them every record. -/
@[simp] theorem State.requestRead_array (who : Requester) (slot : Nat) (j : BankId) (s : State) :
    ((s.requestRead who slot).bank j).array = (s.bank j).array := by
  unfold State.requestRead
  rw [State.arbitrate_array, State.bank_setBank]
  split
  · next e => subst e; rfl
  · rfl
@[simp] theorem State.requestRead_queue (who : Requester) (slot : Nat) (j : BankId) (s : State) :
    ((s.requestRead who slot).bank j).queue = (s.bank j).queue := by
  unfold State.requestRead
  rw [State.arbitrate_queue, State.bank_setBank]
  split
  · next e => subst e; rfl
  · rfl
@[simp] theorem State.requestRead_record (who : Requester) (slot : Nat) (s : State) (n : Nat) :
    (s.requestRead who slot).record n = s.record n :=
  State.record_congr (fun _ => ⟨by simp, by simp⟩) n
theorem State.requestRead_other {who : Requester} {slot : Nat} {j : BankId} (h : j ≠ bankOf slot) (s : State) :
    (s.requestRead who slot).bank j = s.bank j := by
  unfold State.requestRead
  rw [State.arbitrate_other h, State.bank_setBank_other _ _ h]

section
variable (b : BankId) (s : State)

@[simp] theorem State.freeBank_clock : (s.freeBank b).clock = s.clock := by simp [State.freeBank]
@[simp] theorem State.freeBank_lanes : (s.freeBank b).lanes = s.lanes := by simp [State.freeBank]
@[simp] theorem State.freeBank_tagMap : (s.freeBank b).tagMap = s.tagMap := by simp [State.freeBank]
@[simp] theorem State.freeBank_profiles : (s.freeBank b).profiles = s.profiles := by simp [State.freeBank]
@[simp] theorem State.freeBank_update : (s.freeBank b).update = s.update := by simp [State.freeBank]
@[simp] theorem State.freeBank_deadlines : (s.freeBank b).deadlines = s.deadlines := by simp [State.freeBank]
@[simp] theorem State.freeBank_timer : (s.freeBank b).timer = s.timer := by simp [State.freeBank]
@[simp] theorem State.freeBank_command : (s.freeBank b).command = s.command := by simp [State.freeBank]
@[simp] theorem State.freeBank_requests : (s.freeBank b).requests = s.requests := by simp [State.freeBank]
@[simp] theorem State.freeBank_replies : (s.freeBank b).replies = s.replies := by simp [State.freeBank]
@[simp] theorem State.freeBank_reports : (s.freeBank b).reports = s.reports := by simp [State.freeBank]
@[simp] theorem State.freeBank_sending : (s.freeBank b).sending = s.sending := by simp [State.freeBank]
@[simp] theorem State.freeBank_sweep : (s.freeBank b).sweep = s.sweep := by simp [State.freeBank]
@[simp] theorem State.freeBank_port : (s.freeBank b).port = s.port := by simp [State.freeBank]
@[simp] theorem State.freeBank_alert : (s.freeBank b).alert = s.alert := by simp [State.freeBank]
@[simp] theorem State.freeBank_pending : (s.freeBank b).pending = s.pending := by simp [State.freeBank]
@[simp] theorem State.freeBank_lane (k : LaneId) : (s.freeBank b).lane k = s.lane k := by simp [State.lane]
@[simp] theorem State.freeBank_profileEntry (k : ProfileId) : (s.freeBank b).profileEntry k = s.profileEntry k := by simp [State.profileEntry]
@[simp] theorem State.freeBank_profile (k : ProfileId) : (s.freeBank b).profile k = s.profile k := by simp [State.profile]
@[simp] theorem State.freeBank_now : (s.freeBank b).now = s.now := by simp [State.now]

end

@[simp] theorem State.freeBank_array (k j : BankId) (s : State) : ((s.freeBank k).bank j).array = (s.bank j).array := by
  unfold State.freeBank
  rw [State.arbitrate_array, State.bank_setBank]
  split
  · next e => subst e; rfl
  · rfl
@[simp] theorem State.freeBank_queue (k j : BankId) (s : State) : ((s.freeBank k).bank j).queue = (s.bank j).queue := by
  unfold State.freeBank
  rw [State.arbitrate_queue, State.bank_setBank]
  split
  · next e => subst e; rfl
  · rfl
/-- A bank that falls free changes no record. -/
@[simp] theorem State.freeBank_record (k : BankId) (s : State) (n : Nat) : (s.freeBank k).record n = s.record n :=
  State.record_congr (fun _ => ⟨by simp, by simp⟩) n
theorem State.freeBank_other {k j : BankId} (h : j ≠ k) (s : State) : (s.freeBank k).bank j = s.bank j := by
  unfold State.freeBank
  rw [State.arbitrate_other h, State.bank_setBank_other _ _ h]

/-! ### Going for a hold (R38, R40) -/

/-- A hold that is free and that nobody waits for (R38; log entry 13). -/
theorem State.holdFree_iff (slot : Nat) (s : State) :
    s.holdFree slot = true ↔ s.holder slot = none ∧ s.awaited slot = false := by
  simp [State.holdFree]

/-- The update engine going for a hold either asks for its read or waits; the others alike. -/
theorem State.updateAcquires_cases (slot : Nat) (r : BurstResult) (s : State) :
    (s.holdFree slot = true ∧
      s.updateAcquires slot r = State.requestRead .update slot { s with update := .reading slot r }) ∨
    (s.holdFree slot = false ∧ s.updateAcquires slot r = { s with update := .waiting slot r }) := by
  unfold State.updateAcquires
  split
  · next h => exact .inl ⟨h, rfl⟩
  · next h => exact .inr ⟨by simpa using h, rfl⟩
theorem State.commandAcquires_cases (slot : Nat) (r : Request) (s : State) :
    (s.holdFree slot = true ∧
      s.commandAcquires slot r = State.requestRead .command slot { s with command := .reading slot r }) ∨
    (s.holdFree slot = false ∧ s.commandAcquires slot r = { s with command := .waiting slot r }) := by
  unfold State.commandAcquires
  split
  · next h => exact .inl ⟨h, rfl⟩
  · next h => exact .inr ⟨by simpa using h, rfl⟩
theorem State.timerAcquires_cases (slot : Nat) (e : DeadlineEntry) (s : State) :
    (s.holdFree slot = true ∧
      s.timerAcquires slot e = State.requestRead .timer slot { s with timer := .reading slot e }) ∨
    (s.holdFree slot = false ∧ s.timerAcquires slot e = { s with timer := .waiting slot e }) := by
  unfold State.timerAcquires
  split
  · next h => exact .inl ⟨h, rfl⟩
  · next h => exact .inr ⟨by simpa using h, rfl⟩


/-! ### Posts (R33, R34, R39) -/

/-- A free entry of a posted-write queue (R33). -/
theorem Bank.hasEntry_iff (b : Bank) : b.hasEntry = true ↔ b.queue.length < 2 := by
  simp only [Bank.hasEntry, decide_eq_true_eq]; exact Iff.rfl

/-- A post that comes now finds room (R33, R34). -/
theorem State.postRoom_iff (slot : Nat) (s : State) :
    s.postRoom slot = true ↔ (s.bank (bankOf slot)).queue.length < 2 ∧ s.postWaits (bankOf slot) = false := by
  simp [State.postRoom, Bank.hasEntry_iff]

section
variable (p : Post) (s : State)

@[simp] theorem State.applyPost_clock : (s.applyPost p).clock = s.clock := by
  unfold State.applyPost State.enterPost
  cases p.taken <;> cases p.released <;> simp [State.takeProfile, State.releaseProfile, State.setProfileEntry]
@[simp] theorem State.applyPost_lanes : (s.applyPost p).lanes = s.lanes := by
  unfold State.applyPost State.enterPost
  cases p.taken <;> cases p.released <;> simp [State.takeProfile, State.releaseProfile, State.setProfileEntry]
@[simp] theorem State.applyPost_update : (s.applyPost p).update = s.update := by
  unfold State.applyPost State.enterPost
  cases p.taken <;> cases p.released <;> simp [State.takeProfile, State.releaseProfile, State.setProfileEntry]
@[simp] theorem State.applyPost_timer : (s.applyPost p).timer = s.timer := by
  unfold State.applyPost State.enterPost
  cases p.taken <;> cases p.released <;> simp [State.takeProfile, State.releaseProfile, State.setProfileEntry]
@[simp] theorem State.applyPost_command : (s.applyPost p).command = s.command := by
  unfold State.applyPost State.enterPost
  cases p.taken <;> cases p.released <;> simp [State.takeProfile, State.releaseProfile, State.setProfileEntry]
@[simp] theorem State.applyPost_requests : (s.applyPost p).requests = s.requests := by
  unfold State.applyPost State.enterPost
  cases p.taken <;> cases p.released <;> simp [State.takeProfile, State.releaseProfile, State.setProfileEntry]
@[simp] theorem State.applyPost_replies : (s.applyPost p).replies = s.replies := by
  unfold State.applyPost State.enterPost
  cases p.taken <;> cases p.released <;> simp [State.takeProfile, State.releaseProfile, State.setProfileEntry]
@[simp] theorem State.applyPost_reports : (s.applyPost p).reports = s.reports := by
  unfold State.applyPost State.enterPost
  cases p.taken <;> cases p.released <;> simp [State.takeProfile, State.releaseProfile, State.setProfileEntry]
@[simp] theorem State.applyPost_sending : (s.applyPost p).sending = s.sending := by
  unfold State.applyPost State.enterPost
  cases p.taken <;> cases p.released <;> simp [State.takeProfile, State.releaseProfile, State.setProfileEntry]
@[simp] theorem State.applyPost_sweep : (s.applyPost p).sweep = s.sweep := by
  unfold State.applyPost State.enterPost
  cases p.taken <;> cases p.released <;> simp [State.takeProfile, State.releaseProfile, State.setProfileEntry]
@[simp] theorem State.applyPost_port : (s.applyPost p).port = s.port := by
  unfold State.applyPost State.enterPost
  cases p.taken <;> cases p.released <;> simp [State.takeProfile, State.releaseProfile, State.setProfileEntry]
@[simp] theorem State.applyPost_alert : (s.applyPost p).alert = s.alert := by
  unfold State.applyPost State.enterPost
  cases p.taken <;> cases p.released <;> simp [State.takeProfile, State.releaseProfile, State.setProfileEntry]
@[simp] theorem State.applyPost_pending : (s.applyPost p).pending = s.pending := by
  unfold State.applyPost State.enterPost
  cases p.taken <;> cases p.released <;> simp [State.takeProfile, State.releaseProfile, State.setProfileEntry]
@[simp] theorem State.applyPost_lane (k : LaneId) : (s.applyPost p).lane k = s.lane k := by simp [State.lane]
@[simp] theorem State.applyPost_now : (s.applyPost p).now = s.now := by simp [State.now]

end

/-- A post enters its image behind those of its bank's queue. -/
theorem State.applyPost_queue (p : Post) (s : State) (j : BankId) :
    ((s.applyPost p).bank j).queue =
      if j = bankOf p.slot then (s.bank j).queue ++ [{ slot := p.slot, image := p.image }] else (s.bank j).queue := by
  unfold State.applyPost
  rw [State.arbitrate_queue]
  unfold State.enterPost
  have hb : ∀ x y (t : State), (State.takeProfile x (State.releaseProfile y t)).bank j = t.bank j := by
    intro x y t
    cases x <;> cases y <;> rfl
  rw [hb]
  show ((s.setBank _ _).bank j).queue = _
  rw [State.bank_setBank]
  split
  · next e => subst e; rfl
  · rfl
@[simp] theorem State.applyPost_array (p : Post) (s : State) (j : BankId) :
    ((s.applyPost p).bank j).array = (s.bank j).array := by
  unfold State.applyPost
  rw [State.arbitrate_array]
  unfold State.enterPost
  have hb : ∀ x y (t : State), (State.takeProfile x (State.releaseProfile y t)).bank j = t.bank j := by
    intro x y t
    cases x <;> cases y <;> rfl
  rw [hb]
  show ((s.setBank _ _).bank j).array = _
  rw [State.bank_setBank]
  split
  · next e => subst e; rfl
  · rfl
/-- A post makes its image the record of its slot and leaves every other record (R33). -/
theorem State.applyPost_record (p : Post) (s : State) (n : Nat) :
    (s.applyPost p).record n = if n = p.slot then p.image else s.record n := by
  unfold State.record Bank.image
  rw [State.applyPost_queue, State.applyPost_array]
  by_cases hk : bankOf n = bankOf p.slot
  · simp only [hk, if_true, newestPosted_append]
    by_cases hn : p.slot = n
    · subst hn; simp
    · simp [hn, Ne.symm hn]
  · have hn : n ≠ p.slot := fun h => hk (by rw [h])
    simp [hk, hn]
/-- With a post, the tag map maps exactly the image's tags to the slot (R12, R33). -/
@[simp] theorem State.applyPost_tagMap (p : Post) (s : State) :
    (s.applyPost p).tagMap = tagAssign p.slot p.image.tags s.tagMap := by
  unfold State.applyPost State.enterPost
  rw [State.arbitrate_tagMap]
  cases p.taken <;> cases p.released <;> rfl
/-- With a post, the deadline list changes as the post says (R127). -/
@[simp] theorem State.applyPost_deadlines (p : Post) (s : State) :
    (s.applyPost p).deadlines = p.deadline.apply s.now s.deadlines := by
  unfold State.applyPost State.enterPost
  rw [State.arbitrate_deadlines]
  cases p.taken <;> cases p.released <;> rfl

/-- A post completes at once, or waits for room with the hold in hand; the others alike. -/
theorem State.updatePosts_cases (r : BurstResult) (p : Post) (s : State) :
    (s.postRoom p.slot = true ∧ s.updatePosts r p = State.applyPost p { s with update := .idle }) ∨
    (s.postRoom p.slot = false ∧ s.updatePosts r p = { s with update := .posting r p }) := by
  unfold State.updatePosts
  split
  · next h => exact .inl ⟨h, rfl⟩
  · next h => exact .inr ⟨by simpa using h, rfl⟩
theorem State.commandPosts_cases (work : Request) (p : Post) (s : State) :
    (s.postRoom p.slot = true ∧
      s.commandPosts work p = State.commandPosted work p.slot (State.applyPost p { s with command := .idle })) ∨
    (s.postRoom p.slot = false ∧ s.commandPosts work p = { s with command := .posting work p }) := by
  unfold State.commandPosts
  split
  · next h => exact .inl ⟨h, rfl⟩
  · next h => exact .inr ⟨by simpa using h, rfl⟩
theorem State.timerPosts_cases (e : DeadlineEntry) (p : Post) (s : State) :
    (s.postRoom p.slot = true ∧ s.timerPosts e p = State.applyPost p { s with timer := .idle }) ∨
    (s.postRoom p.slot = false ∧ s.timerPosts e p = { s with timer := .posting e p }) := by
  unfold State.timerPosts
  split
  · next h => exact .inl ⟨h, rfl⟩
  · next h => exact .inr ⟨by simpa using h, rfl⟩

/-- What follows a completed post of the command engine: the reply OK, the walk's next slot, or the end of the walk. -/
theorem State.commandPosted_cases (work : Request) (slot : Nat) (s : State) :
    (work ≠ .clearAll ∧ s.commandPosted work slot = s.answer .ok .empty) ∨
    (work = .clearAll ∧ slot + 1 < Config.slots ∧
      s.commandPosted work slot = { s with command := .atSlot (slot + 1) .clearAll }) ∨
    (work = .clearAll ∧ Config.slots ≤ slot + 1 ∧ s.commandPosted work slot = s.walkEnds) := by
  by_cases hw : work = .clearAll
  · subst hw
    by_cases h : slot + 1 < Config.slots
    · exact .inr (.inl ⟨rfl, h, by simp [State.commandPosted, State.walkOn, h]⟩)
    · exact .inr (.inr ⟨rfl, Nat.le_of_not_lt h, by simp [State.commandPosted, State.walkOn, h]⟩)
  · refine .inl ⟨hw, ?_⟩
    cases work <;> first | rfl | exact absurd rfl hw

end Sys2Proof.Machine
end

