-- ==== Sys2Proof/Laws/Lanes.lean ====
section
/-! SUPPORT. What the operations over lanes, their receptions and their results can do: searches with their choice, changes
of one held grant, flushes, and what a change of the count touches. -/

namespace Sys2Proof.Machine

/-! ### Choices -/

/-- The strongest peak is one of the peaks; no other is stronger, and none of equal strength is earlier (R74). -/
theorem strongest_spec {ps : List Peak} {b : Peak} (h : strongest ps = some b) :
    b ∈ ps ∧ ∀ p ∈ ps, p.level < b.level ∨ (p.level = b.level ∧ b.offset ≤ p.offset) := by
  induction ps generalizing b with
  | nil => simp [strongest] at h
  | cons x rest ih =>
    unfold strongest at h
    split at h
    · next hn =>
      cases h
      have hr : rest = [] := by
        cases rest with
        | nil => rfl
        | cons y r => unfold strongest at hn; split at hn <;> (try split at hn) <;> simp at hn
      subst hr
      simp
    · next c hc =>
      have hi := ih hc
      split at h
      · next hcond =>
        cases h
        refine ⟨by simp, fun p hp => ?_⟩
        rcases List.mem_cons.1 hp with rfl | hp
        · exact .inr ⟨rfl, Int.le_refl _⟩
        · have := hi.2 p hp; omega
      · next hcond =>
        cases h
        refine ⟨by simp [hi.1], fun p hp => ?_⟩
        rcases List.mem_cons.1 hp with rfl | hp
        · omega
        · exact hi.2 p hp

/-- There is a strongest peak unless there is none at all. -/
theorem strongest_none {ps : List Peak} : strongest ps = none ↔ ps = [] := by
  cases ps with
  | nil => simp [strongest]
  | cons x r => unfold strongest; split <;> (try split) <;> simp

/-- The peaks within a span. -/
theorem mem_peaksWithin (p : Peak) (span : Int × Int) (ps : List Peak) :
    p ∈ peaksWithin span ps ↔ p ∈ ps ∧ span.1 ≤ p.offset ∧ p.offset ≤ span.2 := by
  simp [peaksWithin, within_iff]

/-- The heads are those of the four result holders (R84). -/
theorem State.mem_heads (s : State) (l : LaneId) (r : BurstResult) :
    (l, r) ∈ s.heads ↔ (s.lane l).holder.head? = some r := by
  have hl : l ∈ [0, 1, 2, (3 : LaneId)] := by
    have : ∀ l : LaneId, l ∈ [0, 1, 2, (3 : LaneId)] := by decide
    exact this l
  simp only [State.heads, List.mem_filterMap, Option.map_eq_some_iff, Prod.mk.injEq]
  constructor
  · rintro ⟨l', -, r', h, rfl, rfl⟩; exact h
  · intro h; exact ⟨l, hl, r, h, rfl, rfl⟩

/-- The head taken is one of the heads (R84). -/
theorem earliestHead_mem {l : List (LaneId × BurstResult)} {x : LaneId × BurstResult} (h : earliestHead l = some x) :
    x ∈ l := by
  induction l generalizing x with
  | nil => simp [earliestHead] at h
  | cons y rest ih =>
    unfold earliestHead at h
    split at h
    · simp_all
    · next b hb =>
      split at h
      · cases h; exact List.mem_cons_of_mem _ (ih hb)
      · simp_all

/-- No head is taken only when there is none. -/
theorem earliestHead_none {l : List (LaneId × BurstResult)} : earliestHead l = none ↔ l = [] := by
  cases l with
  | nil => simp [earliestHead]
  | cons x r => unfold earliestHead; split <;> (try split) <;> simp

/-! ### Changes of held grants -/

/-- The first held grant that a test picks is the one changed. -/
theorem changeFirst_spec {p : Held → Bool} {f : Held → Held} {l m : List Held} (h : changeFirst p f l = some m) :
    ∃ before x after, l = before ++ x :: after ∧ m = before ++ f x :: after ∧ p x = true ∧ ∀ y ∈ before, p y = false := by
  induction l generalizing m with
  | nil => simp [changeFirst] at h
  | cons y rest ih =>
    unfold changeFirst at h
    split at h
    · next hp => cases h; exact ⟨[], y, rest, rfl, rfl, hp, by simp⟩
    · next hp =>
      rw [Option.map_eq_some_iff] at h
      obtain ⟨m', hm, rfl⟩ := h
      obtain ⟨before, x, after, rfl, rfl, hx, hb⟩ := ih hm
      refine ⟨y :: before, x, after, rfl, rfl, hx, fun z hz => ?_⟩
      rcases List.mem_cons.1 hz with rfl | hz
      · simpa using hp
      · exact hb z hz

/-- Giving a held grant its reception keeps everything else of the lane, and the number of held grants (R69, R70). -/
@[simp] theorem Lane.receive_queue (start : Time) (r : Reception) (l : Lane) : (l.receive start r).queue = l.queue := rfl
@[simp] theorem Lane.receive_tail (start : Time) (r : Reception) (l : Lane) : (l.receive start r).tail = l.tail := rfl
@[simp] theorem Lane.receive_mode (start : Time) (r : Reception) (l : Lane) : (l.receive start r).mode = l.mode := rfl
@[simp] theorem Lane.receive_settings (start : Time) (r : Reception) (l : Lane) :
    (l.receive start r).settings = l.settings := rfl
@[simp] theorem Lane.receive_holder (start : Time) (r : Reception) (l : Lane) : (l.receive start r).holder = l.holder := rfl
@[simp] theorem Lane.receive_monitor (start : Time) (r : Reception) (l : Lane) :
    (l.receive start r).monitor = l.monitor := rfl
@[simp] theorem Lane.receive_held_length (start : Time) (r : Reception) (l : Lane) :
    (l.receive start r).held.length = l.held.length := by
  simp [Lane.receive]

/-- The grade of a latch is one of the sixteen (R157). -/
theorem gradeOf_le (level : Int) : gradeOf level ≤ 15 := by
  have := clamp_bounds (floorDiv (level + 240) 16) (show (0 : Int) ≤ 15 by decide)
  unfold gradeOf
  omega

/-! ### A change of the count (R128, R155) -/

/-- A monitor's interval test changes only its mark, and only from clear to set. -/
theorem Monitor.testInterval_eq (now : Time) (m : Monitor) :
    m.testInterval now = { m with mark := (m.testInterval now).mark } ∧ (m.mark = true → (m.testInterval now).mark = true) := by
  unfold Monitor.testInterval
  split
  · exact ⟨rfl, id⟩
  · exact ⟨rfl, fun h => by simp [h]⟩

section
variable (change : CountChange) (s : State)

@[simp] theorem State.countChanged_clock : (s.countChanged change).clock = s.clock := rfl
@[simp] theorem State.countChanged_tagMap : (s.countChanged change).tagMap = s.tagMap := rfl
@[simp] theorem State.countChanged_banks : (s.countChanged change).banks = s.banks := rfl
@[simp] theorem State.countChanged_profiles : (s.countChanged change).profiles = s.profiles := rfl
@[simp] theorem State.countChanged_timer : (s.countChanged change).timer = s.timer := rfl
@[simp] theorem State.countChanged_command : (s.countChanged change).command = s.command := rfl
@[simp] theorem State.countChanged_requests : (s.countChanged change).requests = s.requests := rfl
@[simp] theorem State.countChanged_replies : (s.countChanged change).replies = s.replies := rfl
@[simp] theorem State.countChanged_reports : (s.countChanged change).reports = s.reports := rfl
@[simp] theorem State.countChanged_sending : (s.countChanged change).sending = s.sending := rfl
@[simp] theorem State.countChanged_port : (s.countChanged change).port = s.port := rfl
@[simp] theorem State.countChanged_alert : (s.countChanged change).alert = s.alert := rfl
@[simp] theorem State.countChanged_pending : (s.countChanged change).pending = s.pending := rfl
@[simp] theorem State.countChanged_bank (k : BankId) : (s.countChanged change).bank k = s.bank k := rfl
@[simp] theorem State.countChanged_profile (p : ProfileId) : (s.countChanged change).profile p = s.profile p := rfl
@[simp] theorem State.countChanged_record (n : Nat) : (s.countChanged change).record n = s.record n := rfl
@[simp] theorem State.countChanged_lane (l : LaneId) :
    (s.countChanged change).lane l = (s.lane l).atCount s.now := by
  simp [State.countChanged, State.lane]
@[simp] theorem State.countChanged_heldSlot : (s.countChanged change).update.heldSlot = s.update.heldSlot := by
  simp only [State.countChanged, postAtCount]
  split <;> simp_all [Phase.heldSlot]

end

/-! ### Merging what the lanes give at a slip (R46; log entry 9) -/

/-- The merge keeps each lane's own items and their order. -/
theorem interleave_filter {α : Type} (lane : α → LaneId) (order : List LaneId) (v : Vector (List α) 4)
    (h : ∀ (l : LaneId), ∀ x ∈ v[l], lane x = l) (l : LaneId) :
    (interleave order v).filter (fun x => decide (lane x = l)) = v[l] := by
  induction order generalizing v with
  | nil =>
    have own : ∀ k : LaneId, (v[k]).filter (fun x => decide (lane x = l)) = if k = l then v[k] else [] := by
      intro k
      split
      · next e => subst e; exact List.filter_eq_self.2 fun x hx => by simp [h k x hx]
      · next e => exact List.filter_eq_nil_iff.2 fun x hx => by simp [h k x hx, e]
    have o0 := own 0
    have o1 := own 1
    have o2 := own 2
    have o3 := own 3
    simp only [interleave, List.filter_append]
    have e0 : v[(0 : LaneId)] = v[0] := rfl
    have e1 : v[(1 : LaneId)] = v[1] := rfl
    have e2 : v[(2 : LaneId)] = v[2] := rfl
    have e3 : v[(3 : LaneId)] = v[3] := rfl
    rw [e0] at o0; rw [e1] at o1; rw [e2] at o2; rw [e3] at o3
    rw [o0, o1, o2, o3]
    have hl : l = 0 ∨ l = 1 ∨ l = 2 ∨ l = 3 := by
      have : ∀ l : LaneId, l = 0 ∨ l = 1 ∨ l = 2 ∨ l = 3 := by decide
      exact this l
    rcases hl with rfl | rfl | rfl | rfl <;> simp <;> rfl
  | cons k rest ih =>
    unfold interleave
    split
    · exact ih v h
    · next x more hv =>
      have hx : lane x = k := h k x (by rw [hv]; simp)
      have hset : ∀ j : LaneId, (v.set k more)[j] = if j = k then more else v[j] := by
        intro j
        by_cases e : j = k
        · subst e; simp
        · have hne : (k : Nat) ≠ (j : Nat) := fun h => e (Fin.ext h.symm)
          simp [hne, e]
      have hh : ∀ (j : LaneId), ∀ y ∈ (v.set k more)[j], lane y = j := by
        intro j y hy
        rw [hset] at hy
        split at hy
        · next e => subst e; exact h j y (by rw [hv]; exact List.mem_cons_of_mem _ hy)
        · exact h j y hy
      rw [List.filter_cons, ih _ hh, hset, hx]
      by_cases e : l = k
      · subst e; simp [hv]
      · simp [e, Ne.symm e]

end Sys2Proof.Machine
end

