-- ==== Sys2Proof/Laws/Tags.lean ====
section
/-! SUPPORT. What the operations on the tag map and on a record's tags list can do: find, insert, assign, merge. -/

namespace Sys2Proof.Machine

/-! ### The tag map (R12) -/

/-- A tag below every key of the map is not mapped. -/
theorem tagFind_of_keysAbove {m : List (Nat × Nat)} {tag : Nat} (h : keysAbove (some tag) m = true) :
    tagFind m tag = none := by
  induction m with
  | nil => rfl
  | cons e rest ih =>
    obtain ⟨t, v⟩ := e
    have ht := (keysAbove_cons.1 h).1 tag rfl
    have hne : t ≠ tag := by omega
    simp only [tagFind, hne, if_false]
    exact ih ((keysAbove_weaken (keysAbove_cons.1 h).2).2 tag (by omega))

/-- Mapping a tag maps it, and no other. -/
theorem tagFind_tagInsert (m : List (Nat × Nat)) (tag slot n : Nat) :
    tagFind (tagInsert tag slot m) n = if n = tag then some slot else tagFind m n := by
  induction m with
  | nil =>
    by_cases h : n = tag
    · subst h; simp [tagInsert, tagFind]
    · simp [tagInsert, tagFind, h, Ne.symm h]
  | cons e rest ih =>
    obtain ⟨t, v⟩ := e
    unfold tagInsert
    by_cases h1 : tag < t
    · by_cases h : n = tag
      · subst h; simp [h1, tagFind]
      · simp [h1, tagFind, h, Ne.symm h]
    · by_cases h2 : tag = t
      · subst h2
        by_cases h : n = tag
        · subst h; simp [tagFind]
        · simp [tagFind, h, Ne.symm h]
      · simp only [h1, h2, if_false, tagFind, ih]
        by_cases h : n = tag
        · subst h; simp [Ne.symm h2]
        · simp [h]

/-- Mapping a tag keeps the keys rising, above every bound that lies below the tag. -/
theorem keysAbove_tagInsert {m : List (Nat × Nat)} {tag slot : Nat} {bound : Option Nat}
    (hb : ∀ b, bound = some b → b < tag) (h : keysAbove bound m = true) :
    keysAbove bound (tagInsert tag slot m) = true := by
  induction m generalizing bound with
  | nil => exact keysAbove_cons.2 ⟨hb, rfl⟩
  | cons e rest ih =>
    obtain ⟨t, v⟩ := e
    have hk := keysAbove_cons.1 h
    unfold tagInsert
    by_cases h1 : tag < t
    · simp only [h1, if_true]
      exact keysAbove_cons.2 ⟨hb, keysAbove_cons.2 ⟨fun b hb' => by cases hb'; exact h1, hk.2⟩⟩
    · simp only [h1, if_false]
      by_cases h2 : tag = t
      · subst h2
        simp only [if_true]
        exact keysAbove_cons.2 ⟨hb, hk.2⟩
      · simp only [h2, if_false]
        exact keysAbove_cons.2 ⟨hk.1, ih (fun b hb' => by cases hb'; omega) hk.2⟩

/-- Removing entries keeps the keys rising. -/
theorem keysAbove_filter {α : Type} {m : List (Nat × α)} {bound : Option Nat} (p : Nat × α → Bool)
    (h : keysAbove bound m = true) : keysAbove bound (m.filter p) = true := by
  induction m generalizing bound with
  | nil => exact h
  | cons e rest ih =>
    obtain ⟨t, v⟩ := e
    have hk := keysAbove_cons.1 h
    rw [List.filter_cons]
    split
    · exact keysAbove_cons.2 ⟨hk.1, ih hk.2⟩
    · cases bound with
      | none => exact ih (keysAbove_weaken hk.2).1
      | some b => exact ih ((keysAbove_weaken hk.2).2 b (Nat.le_of_lt (hk.1 b rfl)))

/-- Removing a slot's entries unmaps its tags, and no other. -/
theorem tagFind_filter {m : List (Nat × Nat)} {bound : Option Nat} (h : keysAbove bound m = true) (slot n : Nat) :
    tagFind (m.filter fun e => decide (e.2 ≠ slot)) n =
      if tagFind m n = some slot then none else tagFind m n := by
  induction m generalizing bound with
  | nil => simp [tagFind]
  | cons e rest ih =>
    obtain ⟨t, v⟩ := e
    have hk := (keysAbove_cons.1 h).2
    have ih := ih hk
    rw [List.filter_cons]
    by_cases hv : v = slot
    · subst hv
      simp only [ne_eq, not_true_eq_false, decide_false, Bool.false_eq_true, if_false]
      by_cases hn : t = n
      · subst hn
        rw [show (fun e : Nat × Nat => decide ¬e.2 = v) = fun e => decide (e.2 ≠ v) from rfl, ih]
        simp [tagFind, tagFind_of_keysAbove hk]
      · rw [show (fun e : Nat × Nat => decide ¬e.2 = v) = fun e => decide (e.2 ≠ v) from rfl, ih]
        simp [tagFind, hn]
    · simp only [ne_eq, hv, not_false_eq_true, decide_true, if_true, tagFind]
      by_cases hn : t = n
      · subst hn; simp [hv]
      · simp only [hn, if_false]
        exact ih

theorem tagFind_foldl_tagInsert (tags : List Nat) (slot n : Nat) (m : List (Nat × Nat)) :
    tagFind (tags.foldl (fun m t => tagInsert t slot m) m) n = if n ∈ tags then some slot else tagFind m n := by
  induction tags generalizing m with
  | nil => simp
  | cons t rest ih =>
    rw [List.foldl_cons, ih, tagFind_tagInsert]
    by_cases h : n ∈ rest <;> by_cases h' : n = t <;> simp [h, h']

theorem tagMapWf_foldl_tagInsert (tags : List Nat) (slot : Nat) {m : List (Nat × Nat)} (h : tagMapWf m = true) :
    tagMapWf (tags.foldl (fun m t => tagInsert t slot m) m) = true := by
  induction tags generalizing m with
  | nil => exact h
  | cons t rest ih => exact ih (keysAbove_tagInsert (fun b hb => by cases hb) h)

/-- Assigning tags to a slot keeps the map canonical. -/
theorem tagMapWf_tagAssign {m : List (Nat × Nat)} (slot : Nat) (tags : List Nat) (h : tagMapWf m = true) :
    tagMapWf (tagAssign slot tags m) = true :=
  tagMapWf_foldl_tagInsert tags slot (keysAbove_filter _ h)

/-- After an assignment the slot has exactly its tags; a tag of another slot keeps its slot unless it is among them. -/
theorem tagFind_tagAssign {m : List (Nat × Nat)} (h : tagMapWf m = true) (slot n : Nat) (tags : List Nat) :
    tagFind (tagAssign slot tags m) n =
      if n ∈ tags then some slot else if tagFind m n = some slot then none else tagFind m n := by
  unfold tagAssign
  rw [tagFind_foldl_tagInsert, tagFind_filter (bound := none) h]

/-! ### A record's tags list (R14) -/

theorem mem_insertTag (t n : Nat) (l : List Nat) : n ∈ insertTag t l ↔ n = t ∨ n ∈ l := by
  induction l with
  | nil => simp [insertTag]
  | cons x rest ih =>
    unfold insertTag
    split
    · simp
    · split
      · next h => subst h; simp
      · rw [List.mem_cons, ih, List.mem_cons]; exact or_left_comm

theorem pairwise_insertTag (t : Nat) {l : List Nat} (h : l.Pairwise (· < ·)) : (insertTag t l).Pairwise (· < ·) := by
  induction l with
  | nil => simp [insertTag]
  | cons x rest ih =>
    rw [List.pairwise_cons] at h
    unfold insertTag
    split
    · next hx =>
      rw [List.pairwise_cons]
      refine ⟨fun y hy => ?_, List.pairwise_cons.2 h⟩
      rcases List.mem_cons.1 hy with rfl | hy
      · exact hx
      · exact Nat.lt_trans hx (h.1 y hy)
    · split
      · exact List.pairwise_cons.2 h
      · next h1 h2 =>
        rw [List.pairwise_cons]
        refine ⟨fun y hy => ?_, ih h.2⟩
        rcases (mem_insertTag t y rest).1 hy with rfl | hy
        · omega
        · exact h.1 y hy

theorem length_insertTag {t : Nat} {l : List Nat} (h : t ∉ l) : (insertTag t l).length = l.length + 1 := by
  induction l with
  | nil => rfl
  | cons x rest ih =>
    simp only [List.mem_cons, not_or] at h
    unfold insertTag
    split
    · rfl
    · simp [h.1, ih h.2]

/-- A merged list holds the block's tags and the list's. -/
theorem mem_mergeTags (block tags : List Nat) (n : Nat) : n ∈ mergeTags block tags ↔ n ∈ tags ∨ n ∈ block := by
  unfold mergeTags
  induction block generalizing tags with
  | nil => simp
  | cons t rest ih =>
    rw [List.foldl_cons, ih, mem_insertTag, List.mem_cons, or_comm (a := n = t), or_assoc]

/-- A merged list is rising. -/
theorem pairwise_mergeTags (block : List Nat) {tags : List Nat} (h : tags.Pairwise (· < ·)) :
    (mergeTags block tags).Pairwise (· < ·) := by
  unfold mergeTags
  induction block generalizing tags with
  | nil => exact h
  | cons t rest ih => exact ih (pairwise_insertTag t h)

/-- A merged list is as long as the two together, when no tag is in both. -/
theorem length_mergeTags {block tags : List Nat} (hb : block.Nodup) (h : ∀ t ∈ block, t ∉ tags) :
    (mergeTags block tags).length = tags.length + block.length := by
  unfold mergeTags
  induction block generalizing tags with
  | nil => rfl
  | cons t rest ih =>
    rw [List.nodup_cons] at hb
    rw [List.foldl_cons, ih hb.2, length_insertTag (h t (by simp)), List.length_cons]
    · omega
    · intro x hx
      rw [mem_insertTag]
      rintro (rfl | hm)
      · exact hb.1 hx
      · exact h x (List.mem_cons_of_mem _ hx) hm

end Sys2Proof.Machine
end

