-- ==== Sys2Proof/WellFormed.lean ====
section
/-! DEFINITION. Which commands are well formed: the operands lie in the ranges the spec gives them. The meanings
are total and do not depend on it. -/

namespace Sys2Proof

/-- The samples of a burst name at least one correlation peak (R74 takes the strongest, so there is one), and no
more soft symbols than the longest grant can carry after the shortest preamble (R49, R62, R78). -/
def Samples.wellFormed (s : Samples) : Bool :=
  !s.peaks.isEmpty && decide (s.symbols.length ≤ 4096 - 16)

/-- A command is well formed when every slot it names is one of the 1024, a request frame has a first byte (R165),
and the samples of a burst are well formed. -/
def Instr.wellFormed : Instr → Bool
  | .holdTaken slot => decide (slot < Config.slots)
  | .deadlineExpire slot => decide (slot < Config.slots)
  | .requestArrival frame => !frame.isEmpty
  | .burstComplete _ samples => samples.wellFormed
  | _ => true

end Sys2Proof
end

