-- ==== Sys2Proof/Tests/Slice0.lean ====
section
/-! SUPPORT. Tests. The expected results come from the spec: its worked sequences (1.6, 2.6, 3.7, 4.7, 5.12 to 5.14,
6.8, 7.7, 8.6, 9.6, 10.5, 11.4) and the numbers its rules name. -/

namespace Sys2Proof.Tests

open Sys2Proof.Machine Sys2Proof.Safety

/-! ### Helpers -/

/-- The command completes, and the state after it passes the test. -/
def after (c : Instr) (s : State) (test : State → Bool) : Bool :=
  match exec c s with
  | .next t => test t
  | .fault _ => false
  | .refused _ => false

/-- The frame being sent is a reply of this status. -/
def replied (status : Status) (s : State) : Bool :=
  match s.sending with
  | some (.reply r) => decide (r.status = status)
  | _ => false

/-- The types of the reports in order. -/
def reportTypes (s : State) : List Byte := (reportsInOrder s).map Report.typeByte

/-- Reset, with this count and the clock synchronised. -/
def atCount (n : Nat) : State :=
  { State.reset with clock := { count := BitVec.ofNat 32 n, synchronised := true, armed := none } }

/-- Reset, with this request alone in the queue. -/
def received (r : Request) : State :=
  { State.reset with
    requests := [r.frame]
    replies := [{ code := requestCode r.frame, reply := none, sent := false, refused := [] }] }

/-- Reset, with the command engine working on a request with this record in hand. -/
def inHand (slot : Nat) (r : Request) (image : Record) : State :=
  { State.reset with
    command := .ready slot r image
    replies := [{ code := requestCode r.frame, reply := none, sent := false, refused := [] }] }

/-- A lane of a state changed. -/
def changeLane (l : LaneId) (f : Lane → Lane) (s : State) : State := s.setLane l (f (s.lane l))

/-- A bank of a state changed. -/
def changeBank (k : BankId) (f : Bank → Bank) (s : State) : State := s.setBank k (f (s.bank k))

def station : Record := { Record.atReset with state := .track }

def measurement : Measurement := { error := 700, power := 14, freq := -260, mer := 118 }

def clean : BurstResult :=
  { lane := 1, start := 1000, kind := .data, tag := some 420, slot := some 61, generation := some 0, outcome := .clean
    measured := some measurement, trained := some identityTaps, clipped := false }

def missed : BurstResult := { clean with outcome := .missed, measured := none, trained := none }

def correction : Correction :=
  { epoch := 4, state := .issued, issueTime := 1000000, timingDelta := 512, powerDelta := -8, freqDelta := 260
    taps := none }

def entry : DeadlineEntry :=
  { slot := 61, epoch := 4, issueTime := 1000000, limit := 2097152, expired := false, heldOff := false }

def postOf (slot : Nat) : Post :=
  { slot := slot, image := station, deadline := .keep, released := none, taken := none }

def grant : Grant := { start := 10000, length := 100, kind := .data, tag := some 300 }

def samples (error power : Int) : Samples :=
  { peaks := [{ offset := error, level := 0 }], power := power, freq := 0, mer := 118, trained := identityTaps
    symbols := [] }

def someReport : Report := .laneFlush { lane := 0, reason := .slip, count := 1 }

/-! ### Well-formedness: an ill-formed term for each check -/

theorem test_wellFormed_holdTaken : (Instr.holdTaken 1024).wellFormed = false ∧ (Instr.holdTaken 1023).wellFormed = true := by
  decide

theorem test_wellFormed_deadlineExpire :
    (Instr.deadlineExpire 1024).wellFormed = false ∧ (Instr.deadlineExpire 1023).wellFormed = true := by decide

theorem test_wellFormed_requestArrival :
    (Instr.requestArrival []).wellFormed = false ∧ (Instr.requestArrival [0]).wellFormed = true := by decide

theorem test_wellFormed_burstComplete_peaks :
    (Instr.burstComplete 0 { samples 0 0 with peaks := [] }).wellFormed = false ∧
    (Instr.burstComplete 0 (samples 0 0)).wellFormed = true := by decide

theorem test_wellFormed_burstComplete_symbols :
    (Samples.wellFormed { samples 0 0 with symbols := List.replicate 4081 ⟨0, 0⟩ }) = false := by decide +kernel

/-! ### Table words and the queue -/

theorem test_no_word_spells_a_command : decodeTableWord 8 1 = none ∧ decodeTableWord 16 65535 = none := by decide

theorem test_withFetchWord : State.reset.withFetchWord 8 1 = State.reset := by decide

theorem test_step_takes_the_front :
    (match step { State.reset with pending := [.tick, .reset] } with
      | .next t => decide (t.clock.count = 1 ∧ t.pending = [.reset])
      | _ => false) = true := by decide

/-! ### Arithmetic conventions and the alignment arithmetic -/

/-- R1: at or after is modular. -/
theorem test_atOrAfter : atOrAfter 304 4294966000 = true ∧ before 4294000000 4294964096 = true ∧
    elapsed 520 4294950000 = 17816 ∧ elapsed 520 560 = 4294967256 := by decide

/-- R98: the worked quotients. -/
theorem test_roundShift : roundShift 30 2 = 8 ∧ roundShift (-30) 2 = -8 ∧ roundShift (-96) 6 = -2 ∧
    roundShift 32 6 = 1 ∧ roundShift (-31) 6 = 0 ∧ roundShift (-7) 0 = -7 := by decide

/-- R92 and 5.12 to 5.14. -/
theorem test_qualityOf : qualityOf 36 = 0 ∧ qualityOf 47 = 0 ∧ qualityOf 48 = 1 ∧ qualityOf 118 = 9 ∧
    qualityOf 80 = 5 ∧ qualityOf 159 = 14 ∧ qualityOf 160 = 15 ∧ qualityOf 200 = 15 := by decide

/-- R157. -/
theorem test_gradeOf : gradeOf (-150) = 5 ∧ gradeOf (-1) = 14 ∧ gradeOf 0 = 15 ∧ gradeOf (-16) = 14 ∧
    gradeOf (-17) = 13 ∧ gradeOf (-225) = 0 ∧ gradeOf (-160) = 5 ∧ gradeOf 80 = 15 := by decide

/-- 5.12: the steps of a tracking station. -/
theorem test_tracking_steps :
    timingStep Profile.atReset { station with timing := 150000 } 700 = { value := 150512, delta := 512, limit := false } ∧
    powerStep Profile.atReset { station with power := -20 } 14 = { value := -28, delta := -8, limit := false } ∧
    freqStep Profile.atReset { station with freq := 1200 } (-260) = { value := 1460, delta := 260, limit := false } := by
  decide

/-- 5.13: the steps of an acquiring station at its limits. -/
theorem test_acquiring_steps :
    let p : Profile := { Profile.atReset with powerFloor := -40, powerCeiling := 40 }
    let r : Record := { station with state := .acquire, timing := 2096000, power := 36, freq := -19900 }
    timingStep p r 3000 = { value := 2097151, delta := 1151, limit := true } ∧
    powerStep p r (-20) = { value := 40, delta := 4, limit := true } ∧
    freqStep p r 700 = { value := -20000, delta := -100, limit := false } := by decide

/-- 5.14: the edges of the deadbands. -/
theorem test_deadband_edges :
    (timingStep Profile.atReset { station with timing := 400000 } (-16)).delta = 0 ∧
    powerStep Profile.atReset { station with power := 48 } (-6) = { value := 48, delta := 0, limit := true } ∧
    (freqStep Profile.atReset station 100).delta = 0 := by decide

/-- 5.12: the smoothed taps and their ratio. -/
theorem test_taps_and_ratio :
    let z : Tap := ⟨0, 0⟩
    let w : TapSet :=
      { t0 := z, t1 := z, t2 := ⟨16000, 0⟩, t3 := z, t4 := ⟨1600, -1200⟩, t5 := z, t6 := z, t7 := z }
    let c : TapSet := { w with t2 := ⟨15800, 120⟩, t3 := ⟨40, -30⟩, t4 := ⟨1500, -1100⟩ }
    smoothTaps 2 w c = { w with t2 := ⟨15950, 30⟩, t3 := ⟨10, -8⟩, t4 := ⟨1575, -1175⟩ } ∧
    tapRatio (smoothTaps 2 w c) = 15 := by decide

/-- 5.14: a ratio of exactly 64; R100: a main tap of (0, 0). -/
theorem test_tap_ratio :
    tapRatio { identityTaps with t2 := ⟨16000, 0⟩, t3 := ⟨4000, 0⟩ } = 64 ∧
    tapRatio { identityTaps with t2 := ⟨0, 0⟩ } = 1023 ∧ tapRatio identityTaps = 0 := by decide

/-- 6.8, steps 1, 2, 4 to 6, 10 to 12. -/
theorem test_counting_of_a_silence :
    let p : Profile := { Profile.atReset with silenceLimit := 3, silenceMode := .missedOrPoor }
    let x (mer : Int) : Option Measurement := some { error := 0, power := 0, freq := 0, mer := mer }
    let r (misses : Nat) : Record := { station with missCount := misses }
    let lost : Record := { station with state := .lost }
    (count p (r 0) false none).missCount = 1 ∧ (count p (r 1) false (x 44)).missCount = 2 ∧
    (count p (r 2) true none).missCount = 2 ∧ (count p (r 2) true (x 44)).missCount = 2 ∧
    (count p (r 2) true (x 88)).missCount = 0 ∧
    count p (r 2) false none =
      { state := .lost, missCount := 0, alignedCount := 0, budget := 0, reason := some .silent } ∧
    (count p lost false (x 50)).state = .lost ∧
    count p lost false (x 64) =
      { state := .acquire, missCount := 0, alignedCount := 0, budget := 16, reason := some .rejoined } := by decide

/-- 6.7, steps 1, 6 and 7. -/
theorem test_counting_of_an_acquisition :
    let r (budget run : Nat) : Record := { station with state := .acquire, budget := budget, alignedCount := run }
    let x (e power : Int) : Option Measurement := some { error := e, power := power, freq := 0, mer := 112 }
    (count Profile.atReset (r 16 0) false none).budget = 15 ∧
    (count Profile.atReset (r 12 0) false (x 12 (-1))).alignedCount = 1 ∧
    count Profile.atReset (r 11 1) false (x (-9) 3) =
      { state := .track, missCount := 0, alignedCount := 2, budget := 10, reason := some .locked } := by decide

/-! ### Frames, written out byte by byte from the tables of 10.3 -/

/-- R172: lane 2, DATA, G = 4,294,966,000, 200 symbols, tag 420; the same cut short, its missing bytes taken as 0. -/
theorem test_notice_bytes :
    decodeNotice [2, 3, 0xFF, 0xFF, 0xFA, 0xF0, 0, 200, 1, 164] =
      { wellSized := true, lane := 2, kind := 3, start := 4294966000, length := 200, tag := 420 } ∧
    decodeNotice [2, 3, 0xFF, 0xFF, 0xFA, 0xF0, 0, 200, 1] =
      { wellSized := false, lane := 2, kind := 3, start := 4294966000, length := 200, tag := 256 } ∧
    (decodeNotice [2, 3, 0xFF, 0xFF, 0xFA, 0xF0, 0, 200, 1, 164, 9]).wellSized = false := by decide

/-- R175: ADMIT 37 on lane 2 under profile 3 with A = 150,000, W = −20, F = −2. -/
theorem test_request_bytes_admit :
    parseRequest [1, 0, 37, 2, 3, 0, 2, 0x49, 0xF0, 0xFF, 0xEC, 0xFF, 0xFF, 0xFF, 0xFE] =
      some (.admitStation 37 2 3 150000 (-20) (-2)) := by decide

/-- R175: MAP_TAGS, DELIVERED, LANE_SET, SWEEP, ALERT_SET, and a wrong length and two unknown codes. -/
theorem test_request_bytes :
    parseRequest [7, 0, 37, 0, 204, 4] = some (.mapTags 37 204 4) ∧
    parseRequest [10, 0, 61, 4, 0, 0x12, 0x01, 0x60] = some (.delivered 61 4 1180000) ∧
    parseRequest [13, 3, 2, 32, 0x10, 0, 0xFF, 0x60, 40, 0, 1, 0, 0] = some (.laneSet 3 2 32 4096 (-160) 40 65536) ∧
    parseRequest [19, 0, 100, 0, 12, 12, 15, 255, 1, 0, 2] = some (.sweep 100 12 12 15 255 1 2) ∧
    parseRequest [24, 15, 255, 3, 2, 1, 0, 2] = some (.alertSet 4095 3 2 1 0 2) ∧
    parseRequest [7, 0, 37, 0, 204] = none ∧ parseRequest [0] = none ∧ parseRequest [25] = none := by decide

/-- R173: a STALE report with every presence bit set, e = −2, P = −1, f = 258, M = 118, q = 9. -/
theorem test_burst_bytes :
    BurstReport.bytes
      { lane := 1, start := 10000, kind := .data, tag := some 201, slot := some 37, generation := some 14
        outcome := .stale, measured := some { error := -2, power := -1, freq := 258, mer := 118 }, quality := some 9
        timingLimit := false, powerLimit := true, clipped := false, pre := true, gap := true } =
      [1, 1, 3, 8, 0, 0, 0x27, 0x10, 0, 201, 0, 37, 14, 0xAF, 1, 0xFF, 0xFF, 0xFF, 0xFE, 0xFF, 1, 2, 118, 9] := by
  decide

/-- R174: the correction of 7.7, step 1. -/
theorem test_correction_bytes :
    CorrectionReport.bytes
      { slot := 61, generation := 22, epoch := 4, issueTime := 1000000, tag := some 420, timingDelta := 512
        powerDelta := -8, freqDelta := 260, taps := none, gap := false } =
      [2, 4, 0, 61, 22, 1, 1, 164, 0, 0x0F, 0x42, 0x40, 0, 0, 2, 0, 0xFF, 0xF8, 0, 0, 1, 4] := by decide

/-! ### The plant clock -/

theorem test_reset_lane : after .reset (atCount 5) (fun t => decide (t.clock.count = 0 ∧ t.clock.synchronised = false)) =
    true := by decide

/-- R43: from 2^32 − 1 to 0. -/
theorem test_tick_wraps : after .tick (atCount 4294967295) (fun t => decide (t.clock.count = 0)) = true := by decide

/-- R128: the deadline of an entry is reached at its delivery limit, and not one tick before. -/
theorem test_tick_expires :
    after .tick { atCount 3097151 with deadlines := [entry] } (fun t => t.deadlines.any fun e => e.expired) = true ∧
    after .tick { atCount 3097150 with deadlines := [entry] } (fun t => t.deadlines.all fun e => !e.expired) = true := by
  decide

/-- 3.7: the slip at count 600 to 520 marks slot 9's entry and keeps slot 13's; CLOCK_SLIP is raised. -/
theorem test_slip_of_the_worked_sequence :
    let list : List DeadlineEntry :=
      [{ slot := 13, epoch := 0, issueTime := 4294950000, limit := 2097152, expired := false, heldOff := false },
       { slot := 9, epoch := 0, issueTime := 560, limit := 2097152, expired := false, heldOff := false }]
    let s : State :=
      { State.reset with clock := { count := 600, synchronised := true, armed := some 520 }, deadlines := list }
    after (.syncPulse [] []) s (fun t => decide (t.deadlines.map (fun e => (e.slot, e.expired)) = [(13, false), (9, true)] ∧
      t.clock.count = 520) && t.alert.flag .clockSlip) = true := by decide

/-- 3.7: the slip abandons the received grant, discards the QUIET one and flushes the queue, in this order. -/
theorem test_slip_reports :
    let s : State := changeLane 2 (fun l => { l with
      mode := .run, queue := [grant]
      held := [{ grant := { grant with kind := .maint }, reception := .orphan 2048 },
               { grant := { grant with kind := .quiet, tag := none }, reception := .quietWaiting }] })
      { State.reset with clock := { count := 600, synchronised := true, armed := some 520 } }
    after (.syncPulse [] []) s (fun t => decide (reportTypes t = [1, 8] ∧ t.port.length = 1 ∧
      (t.lane 2).held = [] ∧ (t.lane 2).queue = [])) = true := by decide +kernel

/-- R44: the reply shows the clock as it stands; the value is armed. -/
theorem test_clockSet : after .clockSet (received (.clockSet 520)) (fun t => decide (t.clock.armed = some 520 ∧
    t.sending = some (.reply { code := 18, status := .ok, body := .clock 0 false }))) = true := by decide

/-! ### Grant intake: the notices of 3.7 -/

/-- Lane 2 of 3.7 at count 4,294,960,000, after notice 1. -/
def intake : State :=
  changeLane 2 (fun l => { l with
    mode := .run, settings := { l.settings with rate := .mid }
    queue := [{ start := 4294966000, length := 200, kind := .data, tag := some 1 }]
    tail := some { start := 4294966000, finish := 304 } }) (atCount 4294960000)

def noticeTo (kind : Nat) (start : Time) (length : Nat) : Instr :=
  .grantNotice (Notice.frame { wellSized := true, lane := 2, kind := kind, start := start, length := length, tag := 1 })

def refusedFor (reason : RefusalReason) (s : State) : Bool :=
  s.alert.flag .grantRefused && (match reportsInOrder s with
    | [.grantRefused r] => decide (r.reason = reason)
    | _ => false)

theorem test_notices_refused :
    after (noticeTo 2 200 100) intake (refusedFor .overlap) = true ∧
    after (noticeTo 3 2000 30) intake (refusedFor .badNotice) = true ∧
    after (noticeTo 3 4294000000 64) intake (refusedFor .late) = true ∧
    after (noticeTo 3 5000000 64) intake (refusedFor .far) = true := by decide

theorem test_notices_accepted :
    after (noticeTo 2 304 100) intake (fun t => decide ((t.lane 2).queue.length = 2 ∧
      (t.lane 2).tail = some { start := 304, finish := 1104 })) = true ∧
    after (noticeTo 4 1104 40) intake (fun t => decide ((t.lane 2).tail = some { start := 1104, finish := 1424 })) =
      true := by decide

/-- 3.7: grant 1 is due at 4,294,961,904 and not a tick before; its tag is unmapped here, so that it is an orphan. -/
theorem test_handover_when_due :
    after (.grantHandover 2) { intake with clock := { count := 4294961904, synchronised := true, armed := none } }
      (fun t => decide ((t.lane 2).queue = [] ∧ (t.lane 2).held.map (fun h => h.reception) = [.orphan 2048]) &&
        t.alert.flag .orphanGrant) = true ∧
    after (.grantHandover 2) { intake with clock := { count := 4294961903, synchronised := true, armed := none } }
      (fun t => decide ((t.lane 2).queue.length = 1)) = true := by decide

/-! ### Reception: the grants of 4.7 -/

/-- Lane 0 of 4.7, receiving one grant. -/
def receiving (g : Grant) (r : Reception) (now : Nat) : State :=
  changeLane 0 (fun l => { l with
    mode := .run, held := [{ grant := g, reception := r }]
    monitor := { l.monitor with latched := some { level := -152, saturated := false, grade := 5, lastStart := 0 } } })
    (atCount now)

/-- Grant 2: station 40's lookup completes with an ISSUED correction of +512: the span is −1,536..+2,560. -/
theorem test_lookup_pre_correction :
    let image : Record := { station with profile := 3, tags := [300], pending := some correction }
    let s := changeBank 0 (fun b => { b with access := .read (some (.lookup 0 10000)) 40 image 0 })
      (receiving grant (.looking 40) 6304)
    after (.lookupReadComplete 0) s (fun t => decide ((t.lane 0).held.map (fun h => (t.lane 0).spanOf h.reception) =
      [some (-1536, 2560)])) = true := by decide

/-- Grant 4: the start comes before the read completes: LOOKUP_LATE with profile 0's acquisition window. -/
theorem test_window_open_late :
    let s := changeBank 1 (fun b => { b with waiting := [{ who := .lookup 0 11000, slot := 41 }] })
      (receiving { start := 11000, length := 64, kind := .acq, tag := some 310 } (.looking 41) 11000)
    after (.windowOpen 0) s (fun t => decide ((t.lane 0).held.map (fun h => h.reception) = [.late 41 16384] ∧
      (t.bank 1).waiting = [])) = true := by decide +kernel

/-- Grants 1 and 3: CLEAN with 68 symbols at 10,464 and not a tick before; ORPHAN with measurements. -/
theorem test_bursts_complete :
    after (.burstComplete 0 (samples 140 6)) (receiving grant (.station 12 0 0 2048 identityTaps) 10464)
      (fun t => decide ((t.lane 0).holder.map (fun r => (r.outcome, r.slot, r.measured.isSome)) =
        [(.clean, some 12, true)] ∧ t.port.map (fun u => u.count) = [68])) = true ∧
    after (.burstComplete 0 (samples 140 6)) (receiving grant (.station 12 0 0 2048 identityTaps) 10463)
      (fun t => decide ((t.lane 0).holder = [])) = true := by decide

/-- R76: a second peak 24 qdB below the strongest and more than one symbol (128 subticks) away is a CLASH; at exactly
one symbol it is not. -/
theorem test_clash :
    let g : Grant := { start := 10000, length := 100, kind := .opened, tag := none }
    let two (offset : Int) : Samples := { samples 0 6 with peaks := [⟨100, 0⟩, ⟨offset, -24⟩] }
    after (.burstComplete 0 (two 229)) (receiving g .newcomer 20000)
      (fun t => decide ((t.lane 0).holder.map (fun r => r.outcome) = [.clash])) = true ∧
    after (.burstComplete 0 (two 228)) (receiving g .newcomer 20000)
      (fun t => decide ((t.lane 0).holder.map (fun r => r.outcome) = [.clean])) = true := by decide

theorem test_symbolUnitEmitted :
    let u (l : LaneId) : SymbolUnit := { lane := l, start := 0, tag := none, outcome := .clash, count := 0, symbols := [] }
    after .symbolUnitEmitted { State.reset with port := [u 0, u 1] } (fun t => decide (t.port = [u 1])) = true := by decide

/-! ### Noise: the storm of 9.6 -/

theorem test_stormStep :
    stormStep .run 3 15 = { consecutive := 4, mode := .storm, transition := .entered } ∧
    stormStep .run 2 15 = { consecutive := 3, mode := .run, transition := .none } ∧
    stormStep .run 2 14 = { consecutive := 0, mode := .run, transition := .none } ∧
    stormStep .storm 4 15 = { consecutive := 4, mode := .storm, transition := .none } ∧
    stormStep .storm 4 14 = { consecutive := 0, mode := .storm, transition := .none } ∧
    stormStep .storm 0 12 = { consecutive := 0, mode := .run, transition := .left } := by decide

/-- Lane 3 holding one QUIET grant of 64 symbols at G = 9,000,000. -/
def quiet (r : Reception) (mode : LaneMode) (consecutive now : Nat) : State :=
  changeLane 3 (fun l => { l with
    mode := mode, held := [{ grant := { start := 9000000, length := 64, kind := .quiet, tag := none }, reception := r }]
    monitor := { l.monitor with mode := .periodic, consecutive := consecutive } }) (atCount now)

/-- 9.6, step 11. -/
theorem test_noiseLatch_enters :
    after (.noiseLatch 3 0) (quiet .quietMeasuring .run 3 9000256) (fun t => decide ((t.lane 3).mode = .storm ∧
      (t.lane 3).held = [] ∧ reportTypes t = [9]) && t.alert.flag .stormEnter) = true ∧
    after (.noiseLatch 3 0) (quiet .quietMeasuring .run 3 9000255) (fun t => decide ((t.lane 3).mode = .run)) = true := by
  decide

/-- 9.6, step 1: PERIODIC measures while unmeasured. -/
theorem test_quietStart :
    after (.quietStart 3) (quiet .quietWaiting .run 0 9000000) (fun t => (t.lane 3).busy) = true ∧
    after (.quietStart 3) (quiet .quietWaiting .run 0 8999999) (fun t => !(t.lane 3).busy) = true := by decide

theorem test_quietGrantDone :
    after (.quietGrantDone 3) (quiet .quietPassed .run 0 9000256) (fun t => decide ((t.lane 3).held = [])) = true := by
  decide

/-- R155: at exactly the interval the mark is set. -/
theorem test_intervalMark :
    let s (now : Nat) := changeLane 3 (fun l => { l with monitor := { l.monitor with
      interval := 20000000, latched := some { level := -150, saturated := false, grade := 5, lastStart := 1000000 } } })
      (atCount now)
    after (.intervalMark 3) (s 21000000) (fun t => (t.lane 3).monitor.mark) = true ∧
    after (.intervalMark 3) (s 20999999) (fun t => !(t.lane 3).monitor.mark) = true := by decide

/-- R153, R163. -/
theorem test_noise_requests :
    after .noiseMode (received (.noiseMode 3 1 1)) (fun t => decide ((t.lane 3).monitor.interval = 20000000) &&
      replied .ok t) = true ∧
    after .noiseMode (received (.noiseMode 3 1 61)) (replied .badArg) = true ∧
    after .noiseStatus (received (.noiseStatus 4)) (replied .badArg) = true ∧
    after .noiseStatus (received (.noiseStatus 3)) (replied .ok) = true := by decide

/-! ### The store: bank 2 of 2.6 -/

/-- 2.6, step 3: of two lookups of equal start the lower lane's is granted; step 9: the sweep is held back. -/
theorem test_arbiter :
    let reads : List ReadRequest :=
      [{ who := .sweep, slot := 10 }, { who := .lookup 3 80000, slot := 14 }, { who := .lookup 1 80000, slot := 6 }]
    let two : List Posted := [{ slot := 14, image := station }, { slot := 22, image := station }]
    (Bank.grant 0 { Bank.atReset with waiting := reads }).waiting =
      [{ who := .sweep, slot := 10 }, { who := .lookup 3 80000, slot := 14 }] ∧
    (Bank.grant 0 { Bank.atReset with waiting := [{ who := .sweep, slot := 10 }], queue := two }).access = .drain := by
  decide

/-- 2.6, steps 6 and 8: a read returns the newest posted image. -/
theorem test_forwarding :
    let b : Bank := { Bank.atReset with queue := [{ slot := 14, image := station }, { slot := 22, image := station },
                                                  { slot := 14, image := { station with profile := 5 } }] }
    (b.image 14).profile = 5 ∧ b.image 22 = station ∧ b.image 10 = Record.atReset := by decide

/-- 2.6, steps 11 and 12: the drain frees an entry, the waiting post takes it, and the next drain begins. -/
theorem test_drain_and_post :
    let s := changeBank 2 (fun b => { b with
      queue := [{ slot := 14, image := station }, { slot := 22, image := station }], access := .drain })
      { State.reset with command := .posting (.amend 14 5) (postOf 14) }
    after (.drain 2) s (fun t => decide ((t.bank 2).access = .idle ∧ (t.bank 2).queue.length = 1 ∧
      tableRead (t.bank 2).array 14 = station) &&
      after (.postTakesEntry 2) t (fun u => decide ((u.bank 2).access = .drain ∧ u.command = .idle ∧
        (u.bank 2).queue.map (fun p => p.slot) = [22, 14]))) = true := by decide

/-- R40: the command engine goes before the update engine. -/
theorem test_holdTaken :
    let s : State := { State.reset with update := .waiting 14 clean, command := .waiting 14 (.amend 14 5) }
    after (.holdTaken 14) s (fun t => decide (t.command = .reading 14 (.amend 14 5) ∧ t.update = .waiting 14 clean)) =
      true := by decide

theorem test_bankReadComplete :
    let s := changeBank 1 (fun b => { b with access := .read (some .update) 61 station 0 })
      { State.reset with update := .reading 61 clean }
    after (.bankReadComplete 1) s (fun t => decide (t.update = .ready 61 clean station ∧ (t.bank 1).access = .idle)) =
      true := by decide

/-! ### The update engine -/

/-- 4.8, step 6: of equal starts the lowest lane's head is taken. -/
theorem test_updateTakeResult :
    let r (l : LaneId) (start : Time) : BurstResult := { missed with lane := l, start := start }
    let s := changeLane 0 (fun l => { l with holder := [r 0 20000] })
      (changeLane 1 (fun l => { l with holder := [r 1 20100] })
        (changeLane 3 (fun l => { l with holder := [r 3 20000] }) State.reset))
    after .updateTakeResult s (fun t => decide (t.update = .reading 61 (r 0 20000))) = true := by decide

/-- 7.7, step 1: station 61 is corrected; CORRECTION, then BURST; the entry of deadline 3,097,152. -/
theorem test_updateProcess_issues :
    let image : Record :=
      { station with homeLane := 1, profile := 3, timing := 150000, power := -20, freq := 1200, nextEpoch := 4 }
    let s : State := { atCount 1000000 with update := .ready 61 clean image }
    after .updateProcess s (fun t => decide (((t.record 61).timing, (t.record 61).power, (t.record 61).freq) =
      (150512, -28, 1460) ∧ (t.record 61).pending = some correction ∧ (t.record 61).nextEpoch = 5 ∧
      reportTypes t = [2, 1] ∧ t.deadlines = [entry] ∧ t.update = .idle)) = true := by decide

/-- 1.6: a result of generation 14 is STALE against generation 15, and the record stays. -/
theorem test_updateProcess_stale :
    let s : State := { State.reset with update := .ready 61 clean { station with generation := 15 } }
    after .updateProcess s (fun t => decide (t.record 61 = Record.atReset ∧ reportTypes t = [1] ∧ t.update = .idle)) =
      true := by decide

/-! ### Corrections in flight: 7.8 -/

def expiredEntry : DeadlineEntry := { entry with expired := true }

theorem test_withdrawalStart :
    after .withdrawalStart { State.reset with deadlines := [entry, { expiredEntry with slot := 9 }] }
      (fun t => decide (t.timer = .reading 9 { expiredEntry with slot := 9 })) = true := by decide

theorem test_correctionWithdraw :
    let image : Record := { station with timing := 150512, power := -28, freq := 1460, pending := some correction }
    let s : State := { State.reset with deadlines := [expiredEntry], timer := .ready 61 expiredEntry image }
    after .correctionWithdraw s (fun t => decide (((t.record 61).timing, (t.record 61).power, (t.record 61).freq) =
      (150000, -20, 1200) ∧ (t.record 61).lastWithdrawn = some 4 ∧ (t.record 61).pending = none ∧ t.deadlines = [] ∧
      reportTypes t = [4]) && t.alert.flag .correctionWithdrawn) = true := by decide

theorem test_deadlineExpire :
    after (.deadlineExpire 61) { atCount 3097152 with deadlines := [entry] } (fun t => t.deadlines.all fun e => e.expired) =
      true := by decide

/-- 7.7, steps 3 and 4. -/
theorem test_delivered :
    let image : Record := { station with pending := some correction }
    let s (epoch : Nat) : State :=
      { inHand 61 (.delivered 61 epoch 1180000) image with
        clock := { count := 1190000, synchronised := true, armed := none }, deadlines := [entry] }
    after .delivered (s 5) (replied .staleEpoch) = true ∧
    after .delivered (s 4) (fun t => decide (t.deadlines = [] ∧
      (t.record 61).pending = some { correction with state := .delivered 1180000 }) && replied .ok t) = true := by decide

/-! ### Station requests: 1.6 and 8.6 -/

theorem test_mapTags_refusals :
    let image : Record := { station with tags := [200, 201] }
    let s (base count : Nat) : State := { inHand 37 (.mapTags 37 base count) image with tagMap := [(200, 37), (201, 37)] }
    after .mapTags (s 202 4) (replied .misaligned) = true ∧ after .mapTags (s 200 4) (replied .tagTaken) = true ∧
    after .mapTags (s 208 8) (replied .tagLimit) = true := by decide

theorem test_mapTags_merges :
    let image : Record := { station with tags := [200, 201, 204, 205, 206, 207] }
    after .mapTags (inHand 37 (.mapTags 37 202 2) image) (fun t =>
      decide ((t.record 37).tags = [200, 201, 202, 203, 204, 205, 206, 207] ∧ tagFind t.tagMap 203 = some 37) &&
      replied .ok t) = true := by decide

theorem test_unmapTags :
    let image : Record := { station with tags := [203, 206, 207] }
    let s (tags : List Nat) : State :=
      { inHand 37 (.unmapTags 37 2 tags) image with tagMap := [(203, 37), (206, 37), (207, 37)] }
    after .unmapTags (s [203, 209]) (replied .notMapped) = true ∧
    after .unmapTags (s [206, 207]) (fun t => decide ((t.record 37).tags = [203] ∧ t.tagMap = [(203, 37)]) &&
      replied .ok t) = true := by decide

theorem test_admit :
    after .admitStation (received (.admitStation 1024 0 0 0 0 0)) (replied .badArg) = true ∧
    after .admitStation (inHand 37 (.admitStation 37 2 3 100 (-5) 7) { Record.atReset with generation := 15 }) (fun t =>
      decide (((t.record 37).state, (t.record 37).generation, (t.record 37).budget) = (.acquire, 15, 16) ∧
        (t.profileEntry 3).useCount = 1 ∧ reportTypes t = [5])) = true := by decide

theorem test_retire :
    after .retire (inHand 37 (.retire 37) { station with generation := 14, profile := 3, tags := [200] }) (fun t =>
      decide ((t.record 37).state = .free ∧ (t.record 37).generation = 15 ∧ (t.record 37).tags = [] ∧
        reportTypes t = [5])) = true ∧
    after .retire (inHand 37 (.retire 37) Record.atReset) (replied .noStation) = true := by decide

theorem test_move :
    let image : Record := { station with timing := 80300, power := 4, pending := some { correction with timingDelta := 300 } }
    after .move (inHand 9 (.move 9 2) image) (fun t => decide (((t.record 9).timing, (t.record 9).homeLane) =
      (80000, 2) ∧ (t.record 9).lastWithdrawn = some 4 ∧ reportTypes t = [4, 5])) = true := by decide

theorem test_recover :
    after .recover (inHand 9 (.recover 9) station) (replied .badState) = true ∧
    after .recover (inHand 9 (.recover 9) { station with state := .lost }) (fun t =>
      decide ((t.record 9).state = .acquire ∧ (t.record 9).generation = 1 ∧ reportTypes t = [5])) = true := by decide

/-- 8.6, steps 6 and 7: W = −10 with a pending −8 fits −48..+32, W = +40 does not. -/
theorem test_amend :
    let s (w : Int) (pending : Option Correction) : State :=
      (inHand 21 (.amend 21 4) { station with profile := 7, power := w, pending := pending }).setProfileEntry 4
        { fields := { Profile.atReset with powerCeiling := 32 }, useCount := 0 }
    after .amend (s (-10) (some correction)) (fun t => decide ((t.record 21).profile = 4 ∧
      (t.profileEntry 4).useCount = 1) && replied .ok t) = true ∧
    after .amend (s 40 none) (replied .outOfBounds) = true := by decide

theorem test_fetch :
    after .fetch (received (.fetch 37 2)) (replied .badArg) = true ∧
    after .fetch (inHand 37 (.fetch 37 1) station) (replied .ok) = true := by decide

theorem test_clear_all :
    after .clearAll (received .clearAll) (fun t => decide (t.command = .atSlot 0 .clearAll)) = true ∧
    after .clearAllSlot (inHand 1023 .clearAll Record.atReset) (fun t => decide (reportTypes t = [5] ∧
      t.replies.map (fun e => e.reply.isSome) = [true])) = true := by decide

/-! ### Profiles and lanes -/

/-- The defaults of R142 as the fields of a frame. -/
def rawDefaults : RawProfile :=
  { target := 0, powerDeadband := 4, powerStep := 8, powerFloor := -48, powerCeiling := 48, timingDeadband := 16
    timingStep := 512, trackWindow := 2048, acquisitionWindow := 16384, freqDeadband := 100, lockTiming := 64
    lockPower := 8, lockBursts := 2, budget := 16, endCode := 0, silenceLimit := 6, modeCode := 0, smoothing := 2
    tapThreshold := 40, deliveryLimit := 2097152, settle := 20000 }

/-- R142: the defaults pass every check, and are the profile at reset; 8.6, step 4: a step above the window does not. -/
theorem test_profile_check :
    rawDefaults.check = some Profile.atReset ∧
    RawProfile.check { rawDefaults with timingStep := 4000 } = none ∧
    RawProfile.check { rawDefaults with powerFloor := 49 } = none := by decide

/-- 8.6, steps 1 and 5. -/
theorem test_profileSet :
    let raw : RawProfile := { rawDefaults with timingStep := 1024, powerCeiling := 32 }
    let s := received (.profileSet 4 raw)
    after .profileSet s (fun t => decide ((t.profile 4).timingStep = 1024 ∧ (t.profile 4).powerCeiling = 32) &&
      replied .ok t) = true ∧
    after .profileSet (s.setProfileEntry 4 { fields := Profile.atReset, useCount := 2 }) (replied .inUse) = true := by
  decide

theorem test_profileGet : after .profileGet (received (.profileGet 8)) (replied .badArg) = true ∧
    after .profileGet (received (.profileGet 7)) (fun t => decide (t.sending =
      some (.reply { code := 12, status := .ok, body := .profile 7 Profile.atReset 0 }))) = true := by decide

theorem test_laneSet :
    after .laneSet (received (.laneSet 3 3 32 4096 (-160) 40 65536)) (replied .badArg) = true ∧
    after .laneSet (received (.laneSet 3 0 16 64 (-320) 8 256)) (fun t =>
      decide ((t.lane 3).settings = { rate := .low, preamble := 16, lookahead := 64, defaultFloor := -320, margin := 8,
                                      openWindow := 256 }) && replied .ok t) = true := by decide

theorem test_lane_start_stop :
    after .laneStart (received (.laneStart 3)) (fun t => decide ((t.lane 3).mode = .run) && replied .ok t) = true ∧
    after .laneStop (received (.laneStop 3)) (replied .ok) = true ∧
    after .laneStop (received (.laneStop 4)) (replied .badArg) = true := by decide

/-! ### Sweeps: 10.5 -/

def sweepRun : SweepRun :=
  { first := 100, last := 111, states := 12, lanes := 15, profiles := 255, view := .full, start := 500000
    deadline := 40000, next := 104, frame := [], framesSent := 0, emitted := 0, resume := 100, applies := true
    heldOff := false }

def recordOf (slot : Nat) : SweepRecord := { view := viewRecord .full slot station, readTime := 500000 }

def sweeping (phase : SweepPhase) (r : SweepRun) (now queue : Nat) : State :=
  { atCount now with
    sweep := { phase := phase, result := .none, run := some r }, sending := some (.report someReport)
    reports := List.replicate queue someReport }

theorem test_sweep_accepted :
    let s : State := { received (.sweep 100 12 12 15 255 1 2) with
      clock := { count := 500000, synchronised := true, armed := none } }
    after .sweep s (fun t => decide (t.sweep.phase = .running ∧
      t.sweep.run = some { sweepRun with next := 100 } ) && replied .ok t) = true ∧
    after .sweep (received (.sweep 100 12 12 15 255 1 2)) (replied .unsync) = true := by decide

/-- Steps 2 and 3: the fourth record fills the frame, which enters at once; slot 105 is passed over, being FREE. -/
theorem test_sweepReadComplete :
    let three := { sweepRun with frame := [recordOf 100, recordOf 101, recordOf 103] }
    let reading (r : SweepRun) (image : Record) := changeBank (bankOf r.next)
      (fun b => { b with access := .read (some .sweep) r.next image 500000 }) (sweeping .running r 500400 22)
    after .sweepReadComplete (reading three station) (fun t => decide (t.reports.length = 23 ∧
      t.sweep.run = some { sweepRun with next := 105, framesSent := 1, emitted := 4, resume := 105 })) = true ∧
    after .sweepReadComplete (reading { sweepRun with next := 105 } Record.atReset) (fun t => decide (t.sweep.run =
      some { sweepRun with next := 106 })) = true := by decide

/-- Steps 5 and 6: the frame waits at 51 reports and enters at 48. -/
theorem test_sweepFrameOffer :
    let full := { sweepRun with
      next := 110, frame := [recordOf 106, recordOf 107, recordOf 108, recordOf 109], framesSent := 1, emitted := 4
      resume := 105 }
    after .sweepFrameOffer (sweeping .running full 519000 51) (fun t => decide (t.sweep.run = some full)) = true ∧
    after .sweepFrameOffer (sweeping .running full 519000 48) (fun t => decide (t.reports.length = 49 ∧
      t.sweep.run = some { full with frame := [], framesSent := 2, emitted := 8, resume := 110 })) = true := by decide

/-- Steps 9 and 10. -/
theorem test_sweep_expires :
    let part := { sweepRun with
      next := 112, frame := [recordOf 110, recordOf 111], framesSent := 2, emitted := 8, resume := 110 }
    after .sweepDeadlineExpire (sweeping .running part 539999 60) (fun t => decide (t.sweep.phase = .running)) = true ∧
    after .sweepDeadlineExpire (sweeping .running part 540000 60) (fun t => decide (t.sweep.phase = .ending ∧
      t.sweep.result = .timeout) && after .sweepEnd t (fun u => decide (u.reports.getLast? =
        some (.sweepEnd { status := .timeout, emitted := 8, framesSent := 2, nextSlot := 110 }) ∧
        u.sweep.phase = .idle) && u.alert.flag .sweepEnded)) = true := by decide

theorem test_sweepStop :
    after .sweepStop (received .sweepStop) (replied .badState) = true ∧
    after .sweepStop { received .sweepStop with sweep := { phase := .running, result := .none, run := some sweepRun } }
      (fun t => decide (t.sweep.result = .stopped) && replied .ok t) = true := by decide

/-- R182: after reset the reply shows IDLE, NONE and counts of 0. -/
theorem test_sweepStatus :
    after .sweepStatus (received .sweepStatus) (fun t => decide (t.sending = some (.reply
      { code := 21, status := .ok
        body := .sweep { phase := .idle, result := .none, remaining := 0, framesSent := 0, emitted := 0
                         nextSlot := none } }))) = true := by decide

/-! ### The station link -/

/-- R166: the ninth request is counted. -/
theorem test_requestArrival :
    let e : ReplyEntry := { code := 20, reply := none, sent := false, refused := [] }
    let s : State := { State.reset with requests := List.replicate 8 [20], replies := List.replicate 8 e }
    after (.requestArrival [22]) s (fun t => decide (t.requests.length = 8 ∧
      t.replies.getLast?.map (fun x => x.refused) = some [22]) && t.alert.flag .requestOverrun) = true ∧
    after (.requestArrival [22]) State.reset (fun t => decide (t.requests = [[22]])) = true := by decide

theorem test_badRequest :
    after .badRequest { State.reset with requests := [[9, 9]], replies := [{ code := 9, reply := none, sent := false, refused := [] }] }
      (replied .badRequest) = true := by decide

/-- R169: the own reply, then the FULL replies, then the report that waits. -/
theorem test_outgoingFrameEnd :
    let own : Reply := { code := 20, status := .badState, body := .empty }
    let s : State := { State.reset with
      sending := some (.reply own), reports := [someReport]
      replies := [{ code := 20, reply := some own, sent := false, refused := [22] }] }
    after .outgoingFrameEnd s (fun t => replied .full t && after .outgoingFrameEnd t (fun u =>
      decide (u.sending = some (.report someReport) ∧ u.replies = []))) = true := by decide

/-! ### The alert unit: 11.4 -/

def alertUnit : AlertUnit := { flags := 0x489, enables := 4095, plant := 3, station := 2, flow := 1, service := 0, threshold := 2 }

theorem test_alert_line :
    alertUnit.line = true ∧ alertUnit.firstPending = some .plant ∧
    AlertUnit.line { alertUnit with flags := 0x480 } = false ∧
    AlertUnit.firstPending { alertUnit with flags := 0x480, threshold := 1 } = some .flow := by decide

theorem test_alertRead :
    after .alertRead { received .alertRead with alert := alertUnit } (fun t => decide (t.sending = some (.reply
      { code := 22, status := .ok, body := .alert 0x489 true (some .plant) }))) = true := by decide

theorem test_alertAck :
    after .alertAck { received (.alertAck 9) with alert := alertUnit } (fun t => decide (t.alert.flags = 0x480)) = true ∧
    after .alertAck { received (.alertAck 4096) with alert := alertUnit } (replied .badArg) = true := by decide

theorem test_alertSet :
    after .alertSet { received (.alertSet 4095 3 2 1 0 1) with alert := alertUnit } (fun t =>
      decide (t.alert = { alertUnit with threshold := 1 })) = true ∧
    after .alertSet (received (.alertSet 4095 3 2 1 4 1)) (replied .badArg) = true := by decide

end Sys2Proof.Tests
end

