-- ==== Sys2Proof/Tests/Witnesses.lean ====
section
/-! SUPPORT. Witnesses: for every statement of Sys2Proof/Certificates/Slice0/Obligations.lean that has hypotheses, a
state and operands that meet them, clause by clause, at boundary values of the ranges. -/

namespace Sys2Proof.Tests

open Sys2Proof.Machine Sys2Proof.Safety

/-! ### The part as a whole, the clock -/

theorem witness_StepRunsFrontCommand :
    { State.reset with pending := [.tick] }.pending = .tick :: [] ∧ State.reset.pending = [] := by decide

/-- The update engine's post waits for room. -/
def postWaiting : State := { State.reset with update := .posting clean (postOf 61) }

def armedClock (count : Nat) (synchronised : Bool) (armed : Option Time) : State :=
  { State.reset with clock := { count := BitVec.ofNat 32 count, synchronised := synchronised, armed := armed } }

/-- CLOCK_SET at the head; no value armed; a first load; a trim by exactly two ticks either way, across the wrap too. -/
theorem witness_CountChanges :
    (received (.clockSet 520)).headRequest = some (.clockSet 520) ∧ State.reset.clock.armed = none ∧
    ((armedClock 0 false (some 520)).clock.armed = some 520 ∧
      (armedClock 0 false (some 520)).clock.synchronised = false) ∧
    (let s := armedClock 518 true (some 520)
     s.clock.synchronised = true ∧ -2 ≤ (s.clock.count - 520).toInt ∧ (s.clock.count - 520).toInt ≤ 2) ∧
    (let s := armedClock 1 true (some 4294967295)
     s.clock.synchronised = true ∧ -2 ≤ (s.clock.count - 4294967295).toInt ∧
       (s.clock.count - 4294967295).toInt ≤ 2) := by decide

/-- A difference of three ticks is a slip; a list of a lane with something left, and one with nothing. -/
theorem witness_SlipFlushes :
    (let s := armedClock 523 true (some 520)
     s.clock.armed = some 520 ∧ s.clock.synchronised = true ∧
       ¬ (-2 ≤ (s.clock.count - 520).toInt ∧ (s.clock.count - 520).toInt ≤ 2)) ∧
    (let s := armedClock 517 true (some 520)
     s.clock.armed = some 520 ∧ s.clock.synchronised = true ∧
       ¬ (-2 ≤ (s.clock.count - 520).toInt ∧ (s.clock.count - 520).toInt ≤ 2)) ∧
    (#v[[], [1, 2], [], [3]] : Vector (List Nat) 4)[(0 : LaneId)] = [] ∧
    (#v[[], [1, 2], [], [3]] : Vector (List Nat) 4)[(1 : LaneId)] = 1 :: [2] := by decide

/-! ### Grant intake -/

/-- The bytes of a notice on lane 2. -/
def noticeBytes (lane kind length tag : Nat) : List Byte :=
  Notice.frame { wellSized := true, lane := lane, kind := kind, start := 0, length := length, tag := tag }

/-- Each way a notice is bad. -/
theorem witness_GrantNotice_bad :
    (noticeBytes 2 3 64 1 ++ [0]).length ≠ 10 ∧ 4 ≤ (decodeNotice (noticeBytes 4 3 64 1)).lane ∧
    5 ≤ (decodeNotice (noticeBytes 2 5 64 1)).kind ∧ (decodeNotice (noticeBytes 2 3 31 1)).length < 32 ∧
    4096 < (decodeNotice (noticeBytes 2 3 4097 1)).length ∧
    (∃ l : LaneId, l.val = (decodeNotice (noticeBytes 2 3 32 1)).lane ∧
      (decodeNotice (noticeBytes 2 3 32 1)).length ≤ (State.reset.lane l).settings.preamble) ∧
    (let n := decodeNotice (noticeBytes 2 1 64 16384); 1 ≤ n.kind ∧ n.kind ≤ 3 ∧ 16384 ≤ n.tag) :=
  ⟨by decide, by decide, by decide, by decide, by decide, ⟨2, by decide, by decide⟩, by decide⟩

/-- Sound notices at the ends of the ranges: the shortest above the preamble, the longest, the highest tag. -/
theorem witness_GrantNotice_sound :
    (let f := noticeBytes 3 1 33 16383; let n := decodeNotice f
     f.length = 10 ∧ (3 : LaneId).val = n.lane ∧ GrantKind.acq.code = n.kind ∧ 32 ≤ n.length ∧ n.length ≤ 4096 ∧
     (State.reset.lane 3).settings.preamble < n.length ∧ (1 ≤ n.kind → n.kind ≤ 3 → n.tag < 16384)) ∧
    (let f := noticeBytes 0 4 4096 65535; let n := decodeNotice f
     f.length = 10 ∧ (0 : LaneId).val = n.lane ∧ GrantKind.quiet.code = n.kind ∧ 32 ≤ n.length ∧ n.length ≤ 4096 ∧
     (State.reset.lane 0).settings.preamble < n.length ∧ (1 ≤ n.kind → n.kind ≤ 3 → n.tag < 16384)) := by decide

/-- A lane 2 with one queued grant at 10,000 and so many held ones. -/
def queued (g : Grant) (held : Nat) (now : Nat) : State :=
  changeLane 2 (fun l => { l with
    mode := .run, queue := [g]
    held := List.replicate held { grant := { grant with start := 1 }, reception := .newcomer } }) (atCount now)

/-- No head or no room; a head not due by one tick; due; its start just come; one tick before it. -/
theorem witness_Handover :
    ((State.reset.lane 2).queue = [] ∨ 2 ≤ (State.reset.lane 2).held.length) ∧
    (((queued grant 2 0).lane 2).queue = [] ∨ 2 ≤ ((queued grant 2 0).lane 2).held.length) ∧
    ((queued grant 0 0).lane 2).queue = [grant] ∧
    (let s := queued grant 1 5903
     2147483648 ≤ (s.clock.count - (grant.start - BitVec.ofNat 32 (s.lane 2).settings.lookahead)).toNat) ∧
    (let s := queued grant 1 10000
     (s.lane 2).held.length < 2 ∧
     (s.clock.count - (grant.start - BitVec.ofNat 32 (s.lane 2).settings.lookahead)).toNat < 2147483648 ∧
     (s.clock.count - grant.start).toNat < 2147483648) ∧
    (let s := queued grant 1 9999
     (s.lane 2).held.length < 2 ∧
     (s.clock.count - (grant.start - BitVec.ofNat 32 (s.lane 2).settings.lookahead)).toNat < 2147483648 ∧
     2147483648 ≤ (s.clock.count - grant.start).toNat) := by decide

/-- The kinds at a handover, with the tag unmapped and mapped. -/
theorem witness_Handover_kinds :
    { grant with kind := .opened }.kind = .opened ∧ { grant with kind := .quiet }.kind = .quiet ∧
    grant.kind ≠ .opened ∧ grant.kind ≠ .quiet ∧
    (∀ tag, grant.tag = some tag → tagFind State.reset.tagMap tag = none) ∧
    (grant.tag = some 300 ∧ tagFind { State.reset with tagMap := [(300, 12)] }.tagMap 300 = some 12) :=
  ⟨rfl, rfl, by decide, by decide, fun _ _ => rfl, by decide⟩

/-! ### Receive lanes -/

/-- Bank 0 serves the lookup of lane 0's grant at 10,000 with this image. -/
def lookingUp (g : Grant) (image : Record) (now : Nat) : State :=
  changeBank 0 (fun b => { b with access := .read (some (.lookup 0 g.start)) 12 image 0 })
    (receiving g (.looking 12) now)

/-- A lookup that completes: at its very start (not late), and a tick after it (late); each clause of the image. -/
theorem witness_Lookup :
    (let s := lookingUp grant station 10000
     (s.bank 0).access = .read (some (.lookup 0 10000)) 12 station 0 ∧
     (s.lane 0).lookingAt 10000 = some { grant := grant, reception := .looking 12 } ∧
     ¬ ((s.clock.count - (10000 : Time)).toNat < 2147483648 ∧ s.clock.count ≠ 10000)) ∧
    (let s := lookingUp grant station 10001
     (s.clock.count - (10000 : Time)).toNat < 2147483648 ∧ s.clock.count ≠ 10000) ∧
    (grant.tag = some 300 ∧ 300 ∉ station.tags) ∧ 300 ∈ { station with tags := [300] }.tags ∧
    { station with homeLane := 1 }.homeLane ≠ (0 : LaneId) ∧ station.homeLane = (0 : LaneId) := by decide

theorem witness_WindowOpen :
    let s := receiving grant (.looking 12) 10000
    (s.lane 0).held.find? (Held.windowOpens s.clock.count) = some { grant := grant, reception := .looking 12 } := by
  decide

/-- A station burst with shift 512 at exactly its completion time, 10,400 + 80. -/
def bursting (margin : Nat) : State :=
  changeLane 0 (fun l => { l with settings := { l.settings with margin := margin } })
    (receiving grant (.station 12 0 512 2048 identityTaps) 10480)

theorem witness_BurstCompletion :
    let s := bursting 40
    (s.lane 0).held = { grant := grant, reception := .station 12 0 512 2048 identityTaps } :: [] ∧
    (s.lane 0).spanOf (.station 12 0 512 2048 identityTaps) = some (-1536, 2560) ∧
    (s.clock.count - (grant.start + BitVec.ofNat 32 (grant.length * (s.lane 0).settings.rate.ticks) +
      BitVec.ofNat 32 (((2560 : Int).toNat + 31) / 32))).toNat < 2147483648 := by decide

/-- No peak in the span; a peak at its upper limit, the earlier of two equals, at the margin exactly and one below. -/
theorem witness_BurstCompletion_peaks :
    (∀ p ∈ (samples 2561 0).peaks, ¬ (-1536 ≤ p.offset ∧ p.offset ≤ 2560)) ∧
    (let x : Samples := { samples 0 0 with peaks := [⟨2560, 5⟩, ⟨-1536, 5⟩, ⟨9000, 99⟩] }
     (⟨-1536, 5⟩ : Peak) ∈ x.peaks ∧ ∀ p ∈ x.peaks, -1536 ≤ p.offset → p.offset ≤ 2560 →
       p.level < 5 ∨ (p.level = 5 ∧ -1536 ≤ p.offset)) ∧
    clamp (-112) (-128) 127 - (-152) = 40 ∧ clamp (-113) (-128) 127 - (-152) < 40 := by decide

/-- A second peak 24 qdB down and 129 subticks away, and one exactly a symbol (128 subticks) away. -/
theorem witness_BurstCompletion_clash :
    let rate := (State.reset.lane 0).settings.rate
    let second (x : Samples) : Prop := ∃ p ∈ x.peaks, 0 ≤ p.offset ∧ p.offset ≤ 65536 ∧ 0 - 24 ≤ p.level ∧
      rate.subticks < (p.offset - 100).natAbs
    Reception.newcomer = .newcomer ∧ second { samples 0 0 with peaks := [⟨100, 0⟩, ⟨229, -24⟩] } ∧
    ¬ second { samples 0 0 with peaks := [⟨100, 0⟩, ⟨228, -24⟩] } := by
  refine ⟨rfl, ⟨⟨229, -24⟩, by decide, by decide, by decide, by decide, by decide⟩, by decide⟩

/-- An undecided QUIET grant behind a passed one; a passed one at its very end; a port with a unit and without. -/
theorem witness_QuietGrants :
    (let p : Held := { grant := { grant with kind := .quiet }, reception := .quietPassed }
     let h : Held := { grant := { grant with kind := .quiet, start := 10400 }, reception := .quietWaiting }
     let s := changeLane 3 (fun l => { l with held := [p, h] }) (atCount 10400)
     (s.lane 3).held = [p] ++ h :: [] ∧
     (∀ x ∈ [p], ¬ (x.reception = .quietWaiting ∧ (s.clock.count - x.grant.start).toNat < 2147483648)) ∧
     h.reception = .quietWaiting ∧ (s.clock.count - h.grant.start).toNat < 2147483648 ∧
     p.reception = .quietPassed ∧ (s.clock.count -
       (p.grant.start + BitVec.ofNat 32 (p.grant.length * (s.lane 3).settings.rate.ticks))).toNat < 2147483648) ∧
    State.reset.port = [] := by decide

/-- A measured grant at its very end, in RUN and in STORM, with each count and grade the clauses name. -/
theorem witness_NoiseLatch :
    (let s := quiet .quietMeasuring .run 3 9000256
     ∃ h, (s.lane 3).held = h :: [] ∧ h.reception = .quietMeasuring ∧
       (s.clock.count - (h.grant.start + BitVec.ofNat 32 (h.grant.length * (s.lane 3).settings.rate.ticks))).toNat
         < 2147483648 ∧ (s.lane 3).mode = .run ∧ 3 ≤ (s.lane 3).monitor.consecutive) ∧
    ((quiet .quietMeasuring .run 2 9000256).lane 3).monitor.consecutive < 3 ∧
    ((quiet .quietMeasuring .storm 4 9000256).lane 3).mode = .storm ∧
    (let grade (power : Int) : Nat := (max 0 (min 15 ((max (-320) (min 80 power) + 240) / 16))).toNat
     grade 0 = 15 ∧ grade (-1) = 14 ∧ grade (-17) < 14 ∧ grade (-1) < 15 ∧ grade 1000 = 15) :=
  ⟨⟨_, rfl, by decide, by decide, by decide, by decide⟩, by decide, by decide, by decide⟩

/-! ### The store -/

/-- A bank's read for each writer, for nobody, and none. -/
theorem witness_BankRead :
    (let s := changeBank 1 (fun b => { b with access := .read (some .update) 61 station 0 })
       { State.reset with update := .reading 61 clean }
     (s.bank 1).access = .read (some .update) 61 station 0 ∧ s.update = .reading 61 clean) ∧
    (let s := changeBank 1 (fun b => { b with access := .read (some .command) 61 station 0 })
       { State.reset with command := .reading 61 (.retire 61) }
     (s.bank 1).access = .read (some .command) 61 station 0 ∧ s.command = .reading 61 (.retire 61)) ∧
    (let s := changeBank 1 (fun b => { b with access := .read (some .timer) 61 station 0 })
       { State.reset with timer := .reading 61 entry }
     (s.bank 1).access = .read (some .timer) 61 station 0 ∧ s.timer = .reading 61 entry) ∧
    ((changeBank 1 (fun b => { b with access := .read none 61 station 0 }) State.reset).bank 1).access =
      .read none 61 station 0 ∧
    (∀ who slot image granted, (State.reset.bank 1).access ≠ .read who slot image granted) :=
  ⟨by decide, by decide, by decide, by decide, fun _ _ _ _ h => by cases h⟩

theorem witness_Drain :
    let s := changeBank 2 (fun b => { b with
      array := [(14, station)], queue := [{ slot := 14, image := { station with profile := 5 } }], access := .drain })
      State.reset
    tableWf (s.bank 2).array = true ∧ (s.bank 2).access = .drain ∧
      (s.bank 2).queue = { slot := 14, image := { station with profile := 5 } } :: [] ∧
      (State.reset.bank 2).access ≠ .drain := by decide

/-- Bank 2 with so many posted images. -/
def posted (n : Nat) (s : State) : State :=
  changeBank 2 (fun b => { b with queue := List.replicate n { slot := 14, image := station } }) s

/-- No free entry; one free entry with the update engine's post waiting, with the command engine's, with the timer's. -/
theorem witness_FreedEntry :
    2 ≤ ((posted 2 State.reset).bank 2).queue.length ∧ ((posted 1 State.reset).bank 2).queue.length < 2 ∧
    ((posted 1 { State.reset with update := .posting clean (postOf 14) }).update = .posting clean (postOf 14) ∧
      bankOf (postOf 14).slot = 2) ∧
    (waitingPost State.reset.update = none ∧ waitingPost State.reset.command = none ∧
      (posted 1 { State.reset with command := .posting (.amend 14 5) (postOf 14) }).command =
        .posting (.amend 14 5) (postOf 14) ∧
      (posted 1 { State.reset with timer := .posting entry (postOf 14) }).timer = .posting entry (postOf 14)) := by
  decide

/-- A hold that is held; a free one with each writer waiting. -/
theorem witness_FreedHold :
    { State.reset with command := .ready 14 (.amend 14 5) station }.holder 14 ≠ none ∧ State.reset.holder 14 = none ∧
    (let s : State := { State.reset with command := .waiting 14 (.amend 14 5) }
     s.holder 14 = none ∧ s.command = .waiting 14 (.amend 14 5)) ∧
    (let s : State := { State.reset with update := .waiting 14 clean }
     s.holder 14 = none ∧ s.command.awaitedSlot ≠ some 14 ∧ s.update = .waiting 14 clean) ∧
    (let s : State := { State.reset with timer := .waiting 14 entry }
     s.holder 14 = none ∧ s.command.awaitedSlot ≠ some 14 ∧ s.update.awaitedSlot ≠ some 14 ∧
       s.timer = .waiting 14 entry) := by decide

/-- Reads that wait with lookups' starts across the wrap, half the clock's range around the base; each empty case. -/
theorem witness_Arbiter :
    let b : Bank := { Bank.atReset with
      waiting := [{ who := .lookup 0 5, slot := 2 }, { who := .lookup 1 4294967290, slot := 6 }, { who := .sweep, slot := 10 }] }
    (∀ r ∈ b.waiting, ∀ l g, r.who = .lookup l g → (g - (4294967290 : Time)).toNat < 2147483648) ∧ b.waiting ≠ [] ∧
    Bank.atReset.waiting = [] ∧ Bank.atReset.queue = [] ∧
    { Bank.atReset with queue := [{ slot := 2, image := station }] }.queue ≠ [] := by
  refine ⟨?_, by decide, by decide, by decide, by decide⟩
  intro r hr l g h
  simp only [List.mem_cons, List.not_mem_nil, or_false] at hr
  rcases hr with rfl | rfl | rfl <;> cases h <;> decide

/-- Room and no post waiting; no room; a post that waits; each deadline change; a canonical tag map; the last slot. -/
theorem witness_Post :
    (((posted 1 State.reset).bank (bankOf 14)).queue.length < 2 ∧
      (posted 1 State.reset).postWaits (bankOf 14) = false) ∧
    2 ≤ ((posted 2 State.reset).bank (bankOf 14)).queue.length ∧
    { State.reset with timer := .posting entry (postOf 14) }.postWaits (bankOf 14) = true ∧
    (postOf 14).deadline = .keep ∧ { postOf 14 with deadline := .leave 14 }.deadline = .leave 14 ∧
    { postOf 14 with deadline := .join entry }.deadline = .join entry ∧
    tagMapWf { State.reset with tagMap := [(200, 37), (201, 14)] }.tagMap = true ∧
    Request.amend 14 5 ≠ .clearAll ∧ (postOf 1022).slot + 1 < 1024 ∧ 1024 ≤ (postOf 1023).slot + 1 := by decide

/-! ### The update engine -/

/-- Lane 1's result as the head of the earliest start. -/
def headed (r : BurstResult) : State := changeLane 1 (fun l => { l with holder := [r] }) State.reset

theorem witness_UpdateTakes :
    (headed clean).update = .idle ∧ ((headed clean).lane 1).holder = clean :: [] ∧
    (∀ l' : LaneId, ∀ r' ∈ ((headed clean).lane l').holder.head?,
      (r'.start = clean.start ∧ 1 ≤ l') ∨ (r'.start ≠ clean.start ∧ (r'.start - clean.start).toNat < 2147483648)) ∧
    (∀ l, (State.reset.lane l).holder = []) ∧ postWaiting.update ≠ .idle := by decide

/-- The kinds and outcomes of the clauses. -/
theorem witness_UpdateTakes_kinds :
    (clean.kind ≠ .opened ∧ clean.outcome = .clean ∧ clean.slot = some 61) ∧
    (let r : BurstResult := { clean with outcome := .orphan }
     r.kind ≠ .opened ∧ r.outcome ≠ .clean ∧ r.outcome ≠ .missed) ∧
    (let r : BurstResult := { clean with kind := .opened }
     r.kind = .opened ∧ r.outcome = .clean ∧ r.measured = some measurement) ∧
    { missed with kind := .opened }.outcome = .missed ∧ { missed with kind := .opened, outcome := .clash }.kind = .opened := by
  decide

/-- The update engine with a record in hand. -/
def processing (r : BurstResult) (image : Record) : State := { State.reset with update := .ready 61 r image }

theorem witness_StaleAndMissed :
    (processing clean Record.atReset).update = .ready 61 clean Record.atReset ∧ Record.atReset.state = .free ∧
    clean.generation ≠ some { station with generation := 15 }.generation ∧
    (processing missed station).update = .ready 61 missed station ∧ station.state ≠ .free ∧
    missed.generation = some station.generation ∧ missed.outcome = .missed ∧ missed.measured = none := by decide

theorem witness_CleanResult :
    (processing clean station).update = .ready 61 clean station ∧ station.state ≠ .free ∧
    clean.generation = some station.generation ∧ clean.outcome = .clean ∧ clean.measured = some measurement ∧
    clean.trained = some identityTaps := by decide

/-- Tap sets at the ends of the range. -/
theorem witness_SmoothedTaps :
    let low : Tap := ⟨-32768, -32768⟩
    let high : Tap := ⟨32767, 32767⟩
    let set (a : Tap) : TapSet := { t0 := a, t1 := a, t2 := a, t3 := a, t4 := a, t5 := a, t6 := a, t7 := a }
    (∀ a ∈ (set low).toList, (-32768 ≤ a.re ∧ a.re ≤ 32767) ∧ (-32768 ≤ a.im ∧ a.im ≤ 32767)) ∧
    (∀ a ∈ (set high).toList, (-32768 ≤ a.re ∧ a.re ≤ 32767) ∧ (-32768 ≤ a.im ∧ a.im ≤ 32767)) ∧
    (0 : Int) ≤ 32767 - (-32768) ∧ (-32768 : Int) - 32767 ≤ 0 ∧
    2 * ((2 ^ 2 : Nat) * roundShift 30 2 - 30).natAbs = 2 ^ 2 := by decide

/-- Totals at the ends of their ranges; errors at the deadband and one beyond it, in ACQUIRE and in TRACK. -/
theorem witness_AdjustSteps :
    let p := Profile.atReset
    let acquiring : Record := { station with state := .acquire }
    (0 ≤ { station with timing := 2097151 }.timing ∧ { station with timing := 2097151 }.timing ≤ 2097151) ∧
    (p.powerFloor ≤ { station with power := 48 }.power ∧ { station with power := 48 }.power ≤ p.powerCeiling) ∧
    (-20000 ≤ { station with freq := 20000 }.freq ∧ { station with freq := 20000 }.freq ≤ 20000) ∧
    (16 : Int).natAbs ≤ p.timingDeadband ∧ p.timingDeadband < (-17 : Int).natAbs ∧
    (-(4 - p.target)).natAbs ≤ p.powerDeadband ∧ p.powerDeadband < (-(5 - p.target)).natAbs ∧
    (100 : Int).natAbs ≤ p.freqDeadband ∧ p.freqDeadband < (-101 : Int).natAbs ∧
    acquiring.state = .acquire ∧ station.state = .track := by decide

theorem witness_TapRatio :
    (0 : Int) ^ 2 + 0 ^ 2 = 0 ∧ (16384 : Int) ^ 2 + 0 ^ 2 ≠ 0 ∧ (16384 : Int) ^ 2 ≤ 16384 ^ 2 := by decide

/-- Counting at the boundaries: the run that reaches the lock and the one short of it, the last unit of budget and the
one before; silence at the limit and one short of it; a rejoin at M = 56 and none at 55. -/
theorem witness_Counting :
    let p := Profile.atReset
    let acquiring (budget run : Nat) : Record := { station with state := .acquire, budget := budget, alignedCount := run }
    let run (r : Record) : Nat := min 7 (r.alignedCount + 1)
    ((acquiring 1 1).state = .acquire ∧ 1 ≤ (acquiring 1 1).budget) ∧
    (p.lockBursts ≤ run (acquiring 1 1) ∧ p.endCondition = .either) ∧ { p with endCondition := .budget }.endCondition = .budget ∧
    (run (acquiring 1 0) < p.lockBursts ∧ (acquiring 1 0).budget = 1) ∧
    (run (acquiring 2 0) < p.lockBursts ∧ 2 ≤ (acquiring 2 0).budget) ∧
    (p.silenceLimit ≤ { station with missCount := 5 }.missCount + 1 ∧
      { station with missCount := 4 }.missCount + 1 < p.silenceLimit) ∧
    ({ p with silenceMode := .missedOrPoor }.silenceMode = .missedOrPoor ∧ ¬ (p.silenceMode = .missedOrPoor ∧ (47 : Int) ≤ 47)) ∧
    { station with state := .lost }.state = .lost ∧ (56 : Int) ≤ 56 ∧ (55 : Int) < 56 := by decide

/-! ### Corrections in flight -/

theorem witness_Withdrawal :
    (let s : State := { State.reset with deadlines := [entry] ++ expiredEntry :: [] }
     s.timer = .idle ∧ s.deadlines = [entry] ++ expiredEntry :: [] ∧ (∀ x ∈ [entry], x.expired = false) ∧
       expiredEntry.expired = true) ∧
    (State.reset.timer = .idle ∧ ∀ x ∈ State.reset.deadlines, x.expired = false) ∧
    (let image : Record := { station with pending := some correction }
     let s : State := { State.reset with deadlines := [expiredEntry], timer := .ready 61 expiredEntry image }
     s.timer = .ready 61 expiredEntry image ∧ expiredEntry ∈ s.deadlines ∧ image.pending = some correction ∧
       correction.state = .issued ∧ correction.epoch = expiredEntry.epoch ∧
       correction.issueTime = expiredEntry.issueTime) ∧
    (∀ x ∈ State.reset.deadlines, ¬ (x.slot = entry.slot ∧ x.epoch = entry.epoch ∧ x.issueTime = entry.issueTime)) := by
  decide

/-- Fields at the edges of their ranges; D at the issue time, at the count, a tick before and a tick after them. -/
theorem witness_Delivered :
    (received (.delivered 1024 7 0)).headRequest = some (.delivered 1024 7 0) ∧
    (received (.delivered 1023 8 0)).headRequest = some (.delivered 1023 8 0) ∧
    (received (.delivered 1023 7 0)).headRequest = some (.delivered 1023 7 0) ∧
    (inHand 61 (.delivered 61 4 0) station).command = .ready 61 (.delivered 61 4 0) station ∧
    station.pending = none ∧ { station with lastWithdrawn := some 4 }.lastWithdrawn = some 4 ∧
    (correction.epoch.toNat = 4 ∧ correction.epoch.toNat ≠ 5 ∧ correction.state = .issued ∧
      { correction with state := .delivered 0 }.state ≠ .issued) ∧
    ((1000000 : Time) - correction.issueTime).toNat < 2147483648 ∧
    2147483648 ≤ ((999999 : Time) - correction.issueTime).toNat ∧
    (let now := (atCount 1190000).clock.count
     (1190000 : Time) = now ∧ 2147483648 ≤ ((1189999 : Time) - now).toNat ∧
       ((1190001 : Time) - now).toNat < 2147483648 ∧ (1190001 : Time) ≠ now) := by decide

/-! ### The station link -/

def waitingEntry : ReplyEntry := { code := 20, reply := none, sent := false, refused := [] }

/-- The seventh and the eighth request in the queue; an entry with room for one more refusal. -/
theorem witness_Requests :
    { State.reset with requests := List.replicate 7 [20] }.requests.length < 8 ∧
    8 ≤ { State.reset with requests := List.replicate 8 [20] }.requests.length ∧
    State.reset.replies = [] ∧
    (List.replicate 8 waitingEntry = List.replicate 7 waitingEntry ++ [waitingEntry] ∧
      waitingEntry.refused.length < 65535) ∧
    (let s : State := { State.reset with requests := [[9, 9]] }
     s.command = .idle ∧ s.requests = [9, 9] :: [] ∧ requestLength (requestCode [9, 9]) ≠ some [9, 9].length) ∧
    requestLength (requestCode [9]) = some [9].length ∧
    (inHand 14 (.amend 14 5) station).command ≠ .idle := by decide

/-- An entry whose count stands at its limit. -/
theorem witness_Requests_limit : 65535 ≤ { waitingEntry with refused := List.replicate 65535 22 }.refused.length :=
  Nat.le_of_eq (List.length_replicate (n := 65535) (a := 22)).symm

/-- Each case of the reply order and of what is sent next. -/
theorem witness_Outgoing :
    let own : Reply := { code := 20, status := .ok, body := .empty }
    let done (sent : Bool) (refused : List Nat) : ReplyEntry := { code := 20, reply := some own, sent := sent, refused := refused }
    { State.reset with sending := some (.report someReport) }.sending = some (.report someReport) ∧
    { State.reset with sending := some (.reply own), replies := [done false [], waitingEntry] }.replies =
      done false [] :: [waitingEntry] ∧
    ((done false []).sent = false ∧ (done false []).refused = [] ∧ (done false [22]).refused ≠ [] ∧
      (done true [22]).refused.length ≤ 1 ∧ (done true [22, 23]).refused = 22 :: [23] ∧ ([23] : List Nat) ≠ [] ∧
      (done true [22]).reply = some own ∧ waitingEntry.reply = none) ∧
    (State.reset.reports = [] ∧ { State.reset with reports := [someReport] }.reports = someReport :: []) := by decide

/-- The queue one short of full, and full; a free entry behind a completed one. -/
theorem witness_Offered :
    let own : Reply := { code := 22, status := .ok, body := .empty }
    let complete : ReplyEntry := { code := 22, reply := some own, sent := false, refused := [] }
    { State.reset with reports := List.replicate 63 someReport }.reports.length < 64 ∧
    64 ≤ { State.reset with reports := List.replicate 64 someReport }.reports.length ∧
    ({ State.reset with replies := [complete, waitingEntry] }.replies = [complete] ++ waitingEntry :: [] ∧
      (∀ x ∈ [complete], x.reply ≠ none) ∧ waitingEntry.reply = none) ∧
    (State.reset.sending = none ∧ waitingEntry.sent = false) := by decide

/-! ### Station requests -/

/-- Every request that works on a record at the head of the queue, its fields at the edges of their ranges. -/
theorem witness_RecordRequests :
    (received (.admitStation 1023 3 7 2097151 (-128) 20000)).headRequest = some (.admitStation 1023 3 7 2097151 (-128) 20000) ∧
    (received (.admitStation 0 0 0 2097152 127 (-20001))).headRequest = some (.admitStation 0 0 0 2097152 127 (-20001)) ∧
    (received (.retire 1023)).headRequest = some (.retire 1023) ∧
    (received (.move 1023 4)).headRequest = some (.move 1023 4) ∧
    (received (.recover 1024)).headRequest = some (.recover 1024) ∧
    (received (.amend 0 8)).headRequest = some (.amend 0 8) ∧
    (received (.fetch 0 1)).headRequest = some (.fetch 0 1) ∧
    (received (.mapTags 0 16383 8)).headRequest = some (.mapTags 0 16383 8) ∧
    (received (.unmapTags 0 8 [1, 2, 3, 4, 5, 6, 7, 16383])).headRequest =
      some (.unmapTags 0 8 [1, 2, 3, 4, 5, 6, 7, 16383]) := by decide

theorem witness_RecordRequests_holds :
    (State.reset.holder 14 = none ∧ State.reset.awaited 14 = false) ∧
    postWaiting.holder 61 ≠ none ∧ { State.reset with timer := .waiting 14 entry }.awaited 14 = true := by decide

/-- ADMIT with a FREE record in hand, W at the floor, at the ceiling, and one beyond each; and a live record. -/
theorem witness_Admit :
    let s (w : Int) := inHand 37 (.admitStation 37 3 7 0 w 0) Record.atReset
    (s 48).command = .ready 37 (.admitStation 37 3 7 0 48 0) Record.atReset ∧ (3 : LaneId).val = 3 ∧ (7 : ProfileId).val = 7 ∧
    Record.atReset.state = .free ∧ station.state ≠ .free ∧
    (((s 0).profile 7).powerFloor ≤ -48 ∧ (48 : Int) ≤ ((s 0).profile 7).powerCeiling) ∧
    (-49 : Int) < ((s 0).profile 7).powerFloor ∧ ((s 0).profile 7).powerCeiling < 49 := by decide

theorem witness_Retire :
    (inHand 37 (.retire 37) station).command = .ready 37 (.retire 37) station ∧ station.state ≠ .free ∧
    (inHand 37 (.retire 37) Record.atReset).command = .ready 37 (.retire 37) Record.atReset ∧
    Record.atReset.state = .free := by decide

theorem witness_Move :
    (inHand 37 (.move 37 3) station).command = .ready 37 (.move 37 3) station ∧ (3 : LaneId).val = 3 ∧
    station.state ≠ .free ∧ station.pending = none ∧ Record.atReset.state = .free ∧
    { station with pending := some correction }.pending = some correction := by decide

theorem witness_Recover :
    let lost : Record := { station with state := .lost }
    (inHand 9 (.recover 9) lost).command = .ready 9 (.recover 9) lost ∧ lost.state = .lost ∧ station.state = .track ∧
    { station with state := .acquire }.state = .acquire ∧ Record.atReset.state = .free := by decide

/-- W at the ceiling with a pending delta that keeps the restored value in bounds, and with one that does not. -/
theorem witness_Amend :
    let p := Profile.atReset
    let fits (w : Int) : Prop := p.powerFloor ≤ w ∧ w ≤ p.powerCeiling
    let lawful (r : Record) : Prop := fits r.power ∧ ∀ c ∈ r.pending, fits (r.power - c.powerDelta)
    let r (delta : Int) : Record := { station with power := 48, pending := some { correction with powerDelta := delta } }
    (inHand 21 (.amend 21 7) (r 1)).command = .ready 21 (.amend 21 7) (r 1) ∧ (7 : ProfileId).val = 7 ∧
    ((inHand 21 (.amend 21 7) (r 1)).profile 7) = p ∧ (r 1).state ≠ .free ∧ lawful (r 1) ∧ ¬ lawful (r (-1)) := by
  decide

theorem witness_Fetch :
    (inHand 37 (.fetch 37 1) station).command = .ready 37 (.fetch 37 1) station ∧ station.state ≠ .free ∧
    (inHand 37 (.fetch 37 0) Record.atReset).command = .ready 37 (.fetch 37 0) Record.atReset ∧
    Record.atReset.state = .free := by decide

/-- MAP_TAGS: a base that is and is not a multiple; a taken tag; exactly 8 tags and 9. -/
theorem witness_MapTags :
    let r (n : Nat) : Record := { station with tags := List.range n }
    (inHand 37 (.mapTags 37 204 4) (r 4)).command = .ready 37 (.mapTags 37 204 4) (r 4) ∧ 202 % 4 ≠ 0 ∧ 204 % 4 = 0 ∧
    (r 4).state ≠ .free ∧ Record.atReset.state = .free ∧
    (∀ tag ∈ (List.range 4).map (fun i => 204 + i), tagFind State.reset.tagMap tag = none) ∧
    (∃ tag ∈ (List.range 4).map (fun i => 204 + i), tagFind [(207, 5)] tag = some 5) ∧
    8 < (r 5).tags.length + 4 ∧ (r 4).tags.length + 4 ≤ 8 ∧ (r 4).tags.Pairwise (· < ·) ∧
    (∀ tag ∈ (List.range 4).map (fun i => 204 + i), tag ∉ (r 4).tags) := by decide

theorem witness_UnmapTags :
    let tags := [200, 201, 0, 0, 0, 0, 0, 0]
    let s : State := { inHand 37 (.unmapTags 37 2 tags) station with tagMap := [(200, 37), (201, 37)] }
    s.command = .ready 37 (.unmapTags 37 2 tags) station ∧ station.state ≠ .free ∧
    (∀ tag ∈ tags.take 2, tagFind s.tagMap tag = some 37) ∧ (∃ tag ∈ tags.take 3, tagFind s.tagMap tag ≠ some 37) := by
  decide

theorem witness_ClearAll :
    (received .clearAll).headRequest = some .clearAll ∧
    { State.reset with command := .atSlot 1023 .clearAll }.command = .atSlot 1023 .clearAll ∧
    (inHand 1023 .clearAll Record.atReset).command = .ready 1023 .clearAll Record.atReset ∧
    (inHand 1022 .clearAll station).command = .ready 1022 .clearAll station ∧ Record.atReset.state = .free ∧
    station.state ≠ .free ∧ 1022 < 1023 := by decide

/-! ### Profiles, lanes, noise monitors -/

theorem witness_Profiles :
    (received (.profileSet 7 rawDefaults)).headRequest = some (.profileSet 7 rawDefaults) ∧ (7 : ProfileId).val = 7 ∧
    (received (.profileSet 8 rawDefaults)).headRequest = some (.profileSet 8 rawDefaults) ∧ 8 ≤ 8 ∧
    rawDefaults.check = some Profile.atReset ∧ RawProfile.check { rawDefaults with endCode := 2 } = none ∧
    (State.reset.profileEntry 7).useCount = 0 ∧
    ((State.reset.setProfileEntry 7 { fields := Profile.atReset, useCount := 1 }).profileEntry 7).useCount ≠ 0 ∧
    (received (.profileGet 7)).headRequest = some (.profileGet 7) ∧
    (received (.profileGet 8)).headRequest = some (.profileGet 8) := by decide

/-- Settings at both ends of each range, and one beyond. -/
theorem witness_LaneRequests :
    let sound (rate preamble lookahead : Nat) (floor : Int) (margin openWindow : Nat) : Prop :=
      rate ≤ 2 ∧ (preamble = 16 ∨ preamble = 32 ∨ preamble = 64) ∧ (64 ≤ lookahead ∧ lookahead ≤ 65535) ∧
      (-320 ≤ floor ∧ floor ≤ 80) ∧ (8 ≤ margin ∧ margin ≤ 255) ∧ (256 ≤ openWindow ∧ openWindow ≤ 262143)
    (received (.laneSet 3 2 64 65535 80 255 262143)).headRequest = some (.laneSet 3 2 64 65535 80 255 262143) ∧
    sound 2 64 65535 80 255 262143 ∧ sound 0 16 64 (-320) 8 256 ∧ ¬ sound 3 16 64 (-320) 8 256 ∧
    (received (.laneSet 4 0 16 63 (-321) 7 255)).headRequest = some (.laneSet 4 0 16 63 (-321) 7 255) ∧
    (received (.laneStart 3)).headRequest = some (.laneStart 3) ∧
    (received (.laneStart 4)).headRequest = some (.laneStart 4) ∧
    (received (.laneStop 3)).headRequest = some (.laneStop 3) ∧ (received (.laneStop 4)).headRequest = some (.laneStop 4) ∧
    (3 : LaneId).val = 3 ∧ (State.reset.lane 3).mode = .off ∧ ((bursting 40).lane 0).mode ≠ .off := by decide

theorem witness_NoiseRequests :
    (received (.noiseMode 3 2 60)).headRequest = some (.noiseMode 3 2 60) ∧ (3 : LaneId).val = 3 ∧
    (received (.noiseMode 3 2 61)).headRequest = some (.noiseMode 3 2 61) ∧
    (received (.noiseMode 0 3 0)).headRequest = some (.noiseMode 0 3 0) ∧
    (received (.noiseStatus 3)).headRequest = some (.noiseStatus 3) ∧
    (received (.noiseStatus 4)).headRequest = some (.noiseStatus 4) := by decide

/-! ### Sweeps -/

/-- Fields at the ends of their ranges and one beyond; every state of the engine and of the clock. -/
theorem witness_SweepAccepted :
    let sound (first number states lanes profiles view deadline : Nat) : Prop :=
      first < 1024 ∧ (1 ≤ number ∧ number ≤ 1024) ∧ (states % 2 = 0 ∧ states % 16 ≠ 0) ∧ (0 < lanes ∧ lanes < 16) ∧
      (0 < profiles ∧ profiles < 256) ∧ view < 2 ∧ (1 ≤ deadline ∧ deadline ≤ 1000)
    (received (.sweep 1023 1024 254 15 255 1 1000)).headRequest = some (.sweep 1023 1024 254 15 255 1 1000) ∧
    sound 1023 1024 254 15 255 1 1000 ∧ ¬ sound 1023 1024 240 15 255 1 1000 ∧ ¬ sound 1023 1024 254 16 255 1 1000 ∧
    State.reset.sweep.phase = .idle ∧ (sweeping .ending sweepRun 0 0).sweep.phase ≠ .idle ∧
    State.reset.clock.synchronised = false ∧ (atCount 0).clock.synchronised = true ∧
    (received .sweepStatus).headRequest = some .sweepStatus := by decide

/-- A read that fills the frame, the last slot's read, one that does neither; 48 and 49 reports; a frame to send. -/
theorem witness_SweepReads :
    let s := changeBank (bankOf 104) (fun b => { b with access := .read (some .sweep) 104 station 7 })
      (sweeping .running sweepRun 500400 48)
    ((s.bank (bankOf sweepRun.next)).access = .read (some .sweep) sweepRun.next station 7 ∧ s.sweep.phase = .running ∧
      s.sweep.run = some sweepRun) ∧
    (4 ≤ [recordOf 100, recordOf 101, recordOf 103, recordOf 104].length ∧ ¬ 4 ≤ [recordOf 104].length) ∧
    ({ sweepRun with next := 111 }.last < 111 + 1 ∧ 110 + 1 ≤ { sweepRun with next := 110 }.last) ∧
    (s.reports.length ≤ 48 ∧ 48 < (sweeping .running sweepRun 0 49).reports.length) ∧
    [recordOf 110, recordOf 111] = [recordOf 110] ++ [recordOf 111] ∧ { sweepRun with next := 112 }.last < 112 := by
  decide

theorem witness_SweepEnds :
    (sweeping .ending sweepRun 0 63).sweep.phase = .ending ∧ (sweeping .ending sweepRun 0 63).sweep.run = some sweepRun ∧
    (sweeping .ending sweepRun 0 63).reports.length < 64 ∧ 64 ≤ (sweeping .ending sweepRun 0 64).reports.length := by
  decide

/-- A sweep at its deadline and a tick before; a held-off one; a stop in RUNNING and in IDLE. -/
theorem witness_SweepStops :
    (let s := sweeping .running sweepRun 540000 0
     s.sweep.phase = .running ∧ s.sweep.run = some sweepRun ∧ sweepRun.applies = true ∧ sweepRun.heldOff = false ∧
       sweepRun.deadline ≤ (s.clock.count - sweepRun.start).toNat) ∧
    ((sweeping .running sweepRun 539999 0).clock.count - sweepRun.start).toNat < sweepRun.deadline ∧
    { sweepRun with heldOff := true }.heldOff = true ∧ { sweepRun with applies := false }.applies = false ∧
    (let s : State := { received .sweepStop with sweep := { phase := .running, result := .none, run := some sweepRun } }
     s.headRequest = some .sweepStop ∧ s.sweep.phase = .running) ∧
    ((received .sweepStop).headRequest = some .sweepStop ∧ (received .sweepStop).sweep.phase ≠ .running) := by decide

/-! ### The alert unit -/

theorem witness_Alerts :
    (received .alertRead).headRequest = some .alertRead ∧ alertUnit.line = true ∧ alertUnit.asserting .station = true ∧
    (received (.alertAck 4095)).headRequest = some (.alertAck 4095) ∧
    (received (.alertAck 4096)).headRequest = some (.alertAck 4096) ∧
    (received (.alertSet 4095 3 3 3 3 3)).headRequest = some (.alertSet 4095 3 3 3 3 3) ∧
    (received (.alertSet 4096 4 0 0 0 0)).headRequest = some (.alertSet 4096 4 0 0 0 0) := by decide

/-! ### Frames -/

theorem witness_Frames :
    (Request.admitStation 65535 255 255 4294967295 (-32768) 2147483647).fits = true ∧
    parseRequest [9] = some .clearAll ∧
    (let n : Notice := { wellSized := true, lane := 255, kind := 255, start := 4294967295, length := 65535, tag := 65535 }
     n.wellSized = true ∧ n.lane < 256 ∧ n.kind < 256 ∧ n.length < 65536 ∧ n.tag < 65536) := by decide

theorem witness_ReportFrames :
    (some 16383).getD 0 = 16383 ∧ 16383 < 65536 ∧ (some 1023).getD 0 = 1023 ∧
    (let m : Measurement := { error := -2147483648, power := 127, freq := -32767, mer := 200 }
     m.error < 2147483648 ∧ -2147483648 ≤ m.error ∧ -128 ≤ m.power ∧ m.power ≤ 127 ∧ -32767 ≤ m.freq ∧
       m.freq ≤ 32767 ∧ 0 ≤ m.mer ∧ m.mer ≤ 200) ∧
    (∀ a ∈ identityTaps.toList, (-32768 ≤ a.re ∧ a.re ≤ 32767) ∧ (-32768 ≤ a.im ∧ a.im ≤ 32767)) := by decide

/-! ### Every step -/

/-- Reset, with a tick waiting. -/
def ticking : State := { State.reset with pending := [.tick] }

theorem ticking_bank : ∀ k, ticking.bank k = Bank.atReset := by decide

theorem ticking_record (n : Nat) : ticking.record n = Record.atReset := by
  simp [State.record, ticking_bank, Bank.image, Bank.atReset, newestPosted, tableRead]

theorem ticking_profile : ∀ p, ticking.profile p = Profile.atReset := by decide

/-- The invariants hold of it, and it steps. -/
theorem witness_HeldRecords : HeldRecordsNewest ticking := by
  refine ⟨by decide, ⟨?_, ?_⟩, ?_, ?_, ?_, ?_, ?_, ?_, ?_⟩
  · intro _ h; cases h
  · intro _ h; cases h
  · intro who hw k
    rw [ticking_bank]
    cases who <;> first | rfl | cases hw
  · intro _ _ _ h; cases h
  · intro _ _ _ h; cases h
  · intro _ _ _ h; cases h
  · intro k _ _ _ h; rw [ticking_bank] at h; cases h
  · intro k _ _ _ h; rw [ticking_bank] at h; cases h
  · intro k _ _ _ h; rw [ticking_bank] at h; cases h

theorem witness_TagsMirrored : TagsMirrored ticking := by
  refine ⟨witness_HeldRecords, rfl, ?_, ?_, ?_, ?_, ?_⟩
  · intro slot tag; rw [ticking_record]; constructor <;> intro h <;> cases h
  · intro slot; rw [ticking_record]; exact ⟨.nil, by decide, fun _ => rfl⟩
  · intro _ h; cases h
  · intro _ h; cases h
  · intro _ h; cases h

theorem witness_LinkAndBanks : LinkSound ticking ∧ BanksBusy ticking ∧ SweepOrdered ticking := by
  refine ⟨⟨⟨[], [], rfl, ?_, ?_, rfl, rfl, ?_⟩, fun _ => ⟨rfl, rfl⟩⟩, ?_, ?_⟩
  · intro _ h; cases h
  · intro _ h; cases h
  · intro _ h; cases h
  · intro k _; rw [ticking_bank]; exact .inl ⟨rfl, rfl⟩
  · intro _ h; cases h

/-- A station in TRACK with an ISSUED correction, one miss short of silence. -/
def correcting : Record := { station with timing := 700, freq := 260, missCount := 5, pending := some correction }

/-- That station in slot 61, its deadline entry, its profile's use count, and a tick waiting. -/
def living : State :=
  { (changeBank 1 (fun b => { b with array := [(61, correcting)] }) ticking).setProfileEntry 0
      { fields := Profile.atReset, useCount := 1 } with deadlines := [entry] }

theorem living_bank : ∀ k, living.bank k = if k = 1 then { Bank.atReset with array := [(61, correcting)] }
    else Bank.atReset := by decide

theorem living_record (n : Nat) : living.record n = if n = 61 then correcting else Record.atReset := by
  unfold State.record
  rw [living_bank]
  by_cases hn : n = 61
  · subst hn; decide
  · have h61 : ¬ 61 = n := fun h => hn h.symm
    split <;> simp [Bank.image, Bank.atReset, newestPosted, tableRead, h61]

theorem living_profile : ∀ p, living.profile p = Profile.atReset := by decide

theorem living_lane : ∀ l, living.lane l = Lane.atReset := by decide

theorem living_held : HeldRecordsNewest living := by
  refine ⟨by decide, ⟨?_, ?_⟩, ?_, ?_, ?_, ?_, ?_, ?_, ?_⟩
  · intro _ h; cases h
  · intro _ h; cases h
  · intro who hw k
    rw [living_bank]
    cases who <;> first | (split <;> rfl) | cases hw
  · intro _ _ _ h; cases h
  · intro _ _ _ h; cases h
  · intro _ _ _ h; cases h
  · intro k _ _ _ h; rw [living_bank] at h; split at h <;> cases h
  · intro k _ _ _ h; rw [living_bank] at h; split at h <;> cases h
  · intro k _ _ _ h; rw [living_bank] at h; split at h <;> cases h

theorem living_slots : SlotsNamed living := by
  refine ⟨?_, ?_, ?_⟩
  · intro _ h; cases h
  · intro n h
    rw [living_record, if_neg (by intro e; subst e; revert h; decide)]
    rfl
  · intro _ h; cases h

theorem living_uses : ∀ p, (living.profileEntry p).useCount = stationsUnder living p := by
  intro p
  unfold stationsUnder
  simp only [living_record]
  revert p
  decide +kernel

theorem correcting_inRange : recordInRange correcting := by
  refine ⟨by unfold totalsInRange; decide, by unfold tapsInRange; decide, ?_, ?_, by decide, by decide, by decide,
    by decide, ?_⟩
  · intro _ h; cases h
  · intro _ h; cases h
  · intro c h
    cases h
    refine ⟨⟨by decide, by decide, by decide, ?_⟩, by unfold totalsInRange; decide⟩
    intro _ h; cases h

theorem living_lawful (n : Nat) : stationLawful living (living.record n) := by
  rw [living_record]
  split
  · intro _
    rw [living_profile]
    refine ⟨by decide, ?_, fun _ => by decide, fun h => by cases h⟩
    intro c h
    cases h
    decide
  · intro h; exact absurd rfl h

theorem witness_Values : ValuesInRange living := by
  refine ⟨living_held, living_slots, ⟨living_uses, ?_, ?_, ?_⟩, ?_, ?_, ?_, trivial, trivial, trivial, ?_, ?_,
    ⟨?_, ?_, by decide⟩, by unfold alertInRange; decide, living_lawful, ?_⟩
  · intro _ h; cases h
  · intro _ h; cases h
  · intro _ h; cases h
  · intro k
    rw [living_bank]
    refine ⟨?_, ?_, ?_⟩
    · intro e h
      split at h
      · simp only [List.mem_singleton] at h; subst h; exact correcting_inRange
      · cases h
    · intro e h; split at h <;> cases h
    · intro _ _ _ _ h; split at h <;> cases h
  · intro p; rw [living_profile]; unfold profileInRange; decide
  · intro l
    rw [living_lane]
    refine ⟨by unfold settingsInRange; decide, ⟨⟨4, by decide⟩, ?_, by decide, fun _ => rfl⟩, ?_, ?_⟩
    · intro _ h; cases h
    · intro _ h; cases h
    · intro _ h; cases h
  · intro e h
    simp only [living, List.mem_singleton] at h
    subst h
    exact ⟨by decide, by decide⟩
  · intro _ h; cases h
  · intro _ h; cases h
  · intro _ h; cases h
  · intro _ h; cases h

theorem witness_Deadlines : DeadlinesMirrored living ∧ deadlinesRise 1000000 living.deadlines := by
  refine ⟨⟨living_held, living_slots, ?_, ?_, ?_⟩, by unfold deadlinesRise; decide⟩
  · intro n
    rw [living_record]
    split
    · intro h; cases h
    · intro _; exact ⟨rfl, rfl⟩
  · intro n
    rw [living_record]
    by_cases hn : n = 61
    · subst hn; decide
    · have : ¬ 61 = n := fun h => hn h.symm
      simp [entriesOf, living, entry, hn, this, issuedOf, Record.atReset]
  · intro _ h; cases h

/-- Lane 0 with two grants waiting, the second starting at the end of the first, and a tick waiting. -/
def twoQueued : State :=
  changeLane 0 (fun l => { l with
    mode := .run, queue := [{ grant with start := 4294967290, length := 32 }, { grant with start := 122, length := 4096 }]
    tail := some { start := 122, finish := 16506 } }) ticking

theorem witness_GrantsOrdered : GrantsOrdered twoQueued ∧ GrantsTimely twoQueued := by
  have other : ∀ l, l ≠ 0 → twoQueued.lane l = Lane.atReset := by decide
  constructor
  · intro l
    by_cases h : l = 0
    · subst h
      refine ⟨by decide, ?_, ?_, by decide⟩
      · intro before a b after hq
        match before, hq with
        | [], hq => cases hq; exact ⟨by decide, by decide⟩
        | [_], hq => cases hq
        | _ :: _ :: [], hq => cases hq
        | _ :: _ :: _ :: _, hq => cases hq
      · intro g hg; cases hg; decide
    · rw [other l h]
      refine ⟨fun _ => ⟨rfl, rfl, rfl⟩, ?_, ?_, ?_⟩
      · intro before _ _ _ hq; cases before <;> cases hq
      · intro _ h; cases h
      · intro _ h; cases h
  · intro l t hq ht
    by_cases h : l = 0
    · subst h; cases ht; decide
    · rw [other l h] at hq; exact absurd rfl hq

theorem witness_Capacities : Bounded ticking :=
  ⟨by decide, by decide, by decide, by decide, by decide⟩

/-- A RUNNING sweep of slots 0 to 5: slot 2's record in its open frame, the read of slot 3 in progress, its completion
waiting. -/
def sweepingOn : State :=
  changeBank 3 (fun b => { b with access := .read (some .sweep) 3 station 900 }) { State.reset with
    pending := [.sweepReadComplete]
    sweep := { phase := .running, result := .none
               run := some { first := 0, last := 5, states := 14, lanes := 15, profiles := 255, view := .summary
                             start := 800, deadline := 20000, next := 3
                             frame := [{ view := viewRecord .summary 2 station, readTime := 850 }], framesSent := 0
                             emitted := 0, resume := 0, applies := true, heldOff := false } } }

theorem witness_Sweep : SweepOrdered sweepingOn ∧ SweepBounded sweepingOn := by
  refine ⟨?_, ?_, ?_, by decide⟩
  · intro _ h; cases h; decide
  · intro _ h; cases h; unfold sweepInRange; decide
  · intro _ h _; cases h; decide

theorem witness_Steps :
    (match step ticking with | .next _ => true | _ => false) = true ∧
    (match step living with | .next t => decide (t.deadlines.length = 1) | _ => false) = true ∧
    (match step twoQueued with | .next _ => true | _ => false) = true ∧
    (match step sweepingOn with
      | .next t => t.sweep.run.any fun r => decide (frameSlots r.frame = [2, 3] ∧ r.next = 4)
      | _ => false) = true := by decide

/-- A command that may change a record, and one that may not, answer a next state with a canonical array. -/
theorem witness_RecordsChange :
    Instr.updateProcess ≠ .reset ∧ (∀ k, tableWf ((processing clean station).bank k).array = true) ∧
    after .updateProcess (processing clean { station with timing := 5 }) (fun t => decide (t.record 61 ≠ Record.atReset)) =
      true := by decide

theorem witness_Settings :
    Instr.laneStart ≠ .reset ∧ (atCount 0).clock.synchronised = true ∧
    after .laneStart (received (.laneStart 3)) (fun t => decide ((t.lane 3).mode ≠ (State.reset.lane 3).mode)) = true ∧
    (let s := State.reset.setProfileEntry 0 { fields := Profile.atReset, useCount := 1 }
     (s.profileEntry 0).useCount ≠ 0) ∧ Instr.laneStart ≠ .alertAck ∧ Instr.laneStart ≠ .alertSet := by decide

theorem witness_ReportOrder :
    Instr.outgoingFrameEnd ≠ .reset ∧ Instr.tick ≠ .outgoingFrameEnd ∧
    { State.reset with sending := some (.report someReport) }.sending = some (.report someReport) ∧
    (∀ r, State.reset.sending ≠ some (.report r)) :=
  ⟨by decide, by decide, rfl, fun _ h => by cases h⟩

/-- The update engine works on the newest record of a station whose lane is in STORM. -/
theorem witness_Storm :
    let s := changeLane 1 (fun l => { l with mode := .storm })
      (changeBank 1 (fun b => { b with array := [(61, station)] }) (processing clean station))
    s.update = .ready 61 clean station ∧ station = s.record 61 ∧ (s.lane clean.lane).mode = .storm := by decide

end Sys2Proof.Tests
end

section
/-! ## The clock, the lanes' states and settings, the profiles and the alert unit under every command

Almost every command leaves these parts as they are, but for alert flags that it raises. `SettingsKept s t` says so; it is
a preorder, every shared operation keeps it, and so does every command that is not among the writers of these parts. For the
writers, `OwnCommandsOnly` is shown of the state right after their own change, and carried over whatever follows it. -/

namespace Sys2Proof.Machine.PlantIntake

open Sys2Proof.Safety

/-! ### Two alert units: flags only grow, settings stay (R183, R184) -/

/-- From one state to the other, no alert flag is cleared and no setting of the alert unit changes. -/
def AlertGrows (s t : State) : Prop :=
  (∀ x, flagged s x → flagged t x) ∧ t.alert = { s.alert with flags := t.alert.flags }

theorem AlertGrows.of_eq {s t : State} (h : t.alert = s.alert) : AlertGrows s t :=
  ⟨fun x hx => by simpa [flagged, h] using hx, by rw [h]⟩

theorem AlertGrows.trans {s t u : State} (h : AlertGrows s t) (k : AlertGrows t u) : AlertGrows s u := by
  obtain ⟨grow, settings⟩ := h
  obtain ⟨grow', settings'⟩ := k
  exact ⟨fun x hx => grow' x (grow x hx), by rw [settings', settings]⟩

/-- Raising a cause sets a flag and clears none (R184). -/
theorem alertGrows_raise (c : Cause) (s : State) : AlertGrows s (s.raise c) := by
  refine ⟨fun x hx => ?_, rfl⟩
  simp only [flagged, AlertUnit.flag, State.raise, AlertUnit.raise, BitVec.getLsbD_or] at hx ⊢
  rw [hx, Bool.true_or]

theorem alertGrows_offer (r : Report) (s : State) : AlertGrows s (s.offer r) := by
  by_cases room : s.reportRoom = true
  · exact .of_eq (by rw [State.offer_alert, if_pos room])
  · rw [State.offer_full r (by simpa using room)]
    exact alertGrows_raise _ s

/-! ### The relation, and what keeps it -/

/-- From one state to the other the count, the synchronised flag, the states and settings of the lanes and the fields of
the profiles stay, and the alert unit at most gains flags. -/
structure SettingsKept (s t : State) : Prop where
  count : t.clock.count = s.clock.count
  synchronised : t.clock.synchronised = s.clock.synchronised
  mode : ∀ l, (t.lane l).mode = (s.lane l).mode
  settings : ∀ l, (t.lane l).settings = (s.lane l).settings
  profile : ∀ p, t.profile p = s.profile p
  alert : AlertGrows s t

namespace SettingsKept

/-- An operation that touches none of the four parts keeps them. -/
theorem of_eq {s t : State} (clock : t.clock = s.clock) (lanes : t.lanes = s.lanes) (profiles : t.profiles = s.profiles)
    (alert : t.alert = s.alert) : SettingsKept s t where
  count := by rw [clock]
  synchronised := by rw [clock]
  mode l := by rw [State.lane, lanes, State.lane]
  settings l := by rw [State.lane, lanes, State.lane]
  profile p := by rw [State.profile, State.profileEntry, profiles, State.profile, State.profileEntry]
  alert := .of_eq alert

theorem refl (s : State) : SettingsKept s s := of_eq rfl rfl rfl rfl

theorem trans {s t u : State} (h : SettingsKept s t) (k : SettingsKept t u) : SettingsKept s u where
  count := k.count.trans h.count
  synchronised := k.synchronised.trans h.synchronised
  mode l := (k.mode l).trans (h.mode l)
  settings l := (k.settings l).trans (h.settings l)
  profile p := (k.profile p).trans (h.profile p)
  alert := h.alert.trans k.alert

/-- A lane that keeps its state and its settings may take its place again. -/
theorem setLane_same {s : State} {l : LaneId} {x : Lane} (mode : x.mode = (s.lane l).mode)
    (settings : x.settings = (s.lane l).settings) : SettingsKept s (s.setLane l x) where
  count := rfl
  synchronised := rfl
  mode k := by rw [State.lane_setLane]; split <;> simp_all
  settings k := by rw [State.lane_setLane]; split <;> simp_all
  profile _ := rfl
  alert := .of_eq rfl

/-- A change of a profile's use count leaves its fields. -/
theorem setUseCount (s : State) (p : ProfileId) (n : Nat) :
    SettingsKept s (s.setProfileEntry p { s.profileEntry p with useCount := n }) where
  count := rfl
  synchronised := rfl
  mode _ := rfl
  settings _ := rfl
  profile q := by
    rw [State.profile, State.profile, State.profileEntry_set]
    split <;> simp_all
  alert := .of_eq rfl

section
variable {s t : State} (h : SettingsKept s t)
include h

theorem raise (c : Cause) : SettingsKept s (t.raise c) :=
  h.trans ⟨rfl, rfl, fun _ => rfl, fun _ => rfl, fun _ => rfl, alertGrows_raise c t⟩

theorem offer (r : Report) : SettingsKept s (t.offer r) :=
  h.trans ⟨by simp, by simp, by simp, by simp, by simp, alertGrows_offer r t⟩

theorem offerAll (rs : List Report) : SettingsKept s (t.offerAll rs) := by
  induction rs generalizing t with
  | nil => exact h
  | cons r rest ih => exact ih (h.offer r)

theorem startSending : SettingsKept s t.startSending := h.trans (of_eq (by simp) (by simp) (by simp) (by simp))

theorem answer (status : Status) (body : ReplyBody) : SettingsKept s (t.answer status body) :=
  h.trans (of_eq (by simp) (by simp) (by simp) (by simp))

theorem refuse (status : Status) : SettingsKept s (t.refuse status) := h.answer status .empty

theorem emit (u : SymbolUnit) : SettingsKept s (t.emit u) := h.trans (of_eq rfl rfl rfl rfl)

theorem emitAll (us : List SymbolUnit) : SettingsKept s (t.emitAll us) :=
  h.trans (of_eq (by simp) (by simp) (by simp) (by simp))

theorem takeRequest : SettingsKept s t.takeRequest := h.trans (of_eq rfl rfl rfl rfl)

theorem withdrawReads (gone : Requester → Bool) : SettingsKept s (t.withdrawReads gone) := h.trans (of_eq rfl rfl rfl rfl)

theorem setBank (k : BankId) (b : Bank) : SettingsKept s (t.setBank k b) := h.trans (of_eq rfl rfl rfl rfl)

theorem setRun (r : SweepRun) : SettingsKept s (t.setRun r) := h.trans (of_eq rfl rfl rfl rfl)

theorem arbitrate (k : BankId) : SettingsKept s (t.arbitrate k) :=
  h.trans (of_eq (by simp) (by simp) (by simp) (by simp))

theorem freeBank (k : BankId) : SettingsKept s (t.freeBank k) :=
  h.trans (of_eq (by simp) (by simp) (by simp) (by simp))

theorem requestRead (who : Requester) (slot : Nat) : SettingsKept s (t.requestRead who slot) :=
  h.trans (of_eq (by simp) (by simp) (by simp) (by simp))

/-! ### The phases of the three writers, and the sweep engine -/

theorem setUpdate (p : Phase BurstResult) : SettingsKept s { t with update := p } := h.trans (of_eq rfl rfl rfl rfl)

theorem setCommand (p : Phase Request) : SettingsKept s { t with command := p } := h.trans (of_eq rfl rfl rfl rfl)

theorem setTimer (p : Phase DeadlineEntry) : SettingsKept s { t with timer := p } := h.trans (of_eq rfl rfl rfl rfl)

theorem setSweep (e : SweepEngine) : SettingsKept s { t with sweep := e } := h.trans (of_eq rfl rfl rfl rfl)

theorem setTagsAndDeadlines (tags : List (Nat × Nat)) (deadlines : List DeadlineEntry) :
    SettingsKept s { t with tagMap := tags, deadlines := deadlines } := h.trans (of_eq rfl rfl rfl rfl)

theorem setLane {l : LaneId} {x : Lane} (mode : x.mode = (t.lane l).mode := by rfl)
    (settings : x.settings = (t.lane l).settings := by rfl) : SettingsKept s (t.setLane l x) :=
  h.trans (setLane_same mode settings)

/-! ### Holds and posts -/

theorem updateAcquires (slot : Nat) (r : BurstResult) : SettingsKept s (t.updateAcquires slot r) := by
  rcases State.updateAcquires_cases slot r t with ⟨-, e⟩ | ⟨-, e⟩ <;> rw [e]
  · exact (h.setUpdate _).requestRead _ _
  · exact h.setUpdate _

theorem commandAcquires (slot : Nat) (r : Request) : SettingsKept s (t.commandAcquires slot r) := by
  rcases State.commandAcquires_cases slot r t with ⟨-, e⟩ | ⟨-, e⟩ <;> rw [e]
  · exact (h.setCommand _).requestRead _ _
  · exact h.setCommand _

theorem timerAcquires (slot : Nat) (e : DeadlineEntry) : SettingsKept s (t.timerAcquires slot e) := by
  rcases State.timerAcquires_cases slot e t with ⟨-, e⟩ | ⟨-, e⟩ <;> rw [e]
  · exact (h.setTimer _).requestRead _ _
  · exact h.setTimer _

theorem releaseProfile (p : Option ProfileId) : SettingsKept s (t.releaseProfile p) := by
  cases p with
  | none => exact h
  | some p => exact h.trans (setUseCount t p _)

theorem takeProfile (p : Option ProfileId) : SettingsKept s (t.takeProfile p) := by
  cases p with
  | none => exact h
  | some p => exact h.trans (setUseCount t p _)

theorem applyPost (p : Post) : SettingsKept s (t.applyPost p) :=
  ((((h.setBank _ _).setTagsAndDeadlines _ _).releaseProfile _).takeProfile _).arbitrate _

theorem walkEnds : SettingsKept s t.walkEnds := (h.offer _).answer _ _

theorem walkOn (slot : Nat) : SettingsKept s (t.walkOn slot) := by
  unfold State.walkOn
  split
  · exact h.setCommand _
  · exact h.walkEnds

theorem commandPosted (work : Request) (slot : Nat) : SettingsKept s (t.commandPosted work slot) := by
  rcases State.commandPosted_cases work slot t with ⟨-, e⟩ | ⟨-, -, e⟩ | ⟨-, -, e⟩ <;> rw [e]
  · exact h.answer _ _
  · exact h.setCommand _
  · exact h.walkEnds

theorem updatePosts (r : BurstResult) (p : Post) : SettingsKept s (t.updatePosts r p) := by
  rcases State.updatePosts_cases r p t with ⟨-, e⟩ | ⟨-, e⟩ <;> rw [e]
  · exact (h.setUpdate _).applyPost p
  · exact h.setUpdate _

theorem commandPosts (work : Request) (p : Post) : SettingsKept s (t.commandPosts work p) := by
  rcases State.commandPosts_cases work p t with ⟨-, e⟩ | ⟨-, e⟩ <;> rw [e]
  · exact ((h.setCommand _).applyPost p).commandPosted _ _
  · exact h.setCommand _

theorem timerPosts (e : DeadlineEntry) (p : Post) : SettingsKept s (t.timerPosts e p) := by
  rcases State.timerPosts_cases e p t with ⟨-, e⟩ | ⟨-, e⟩ <;> rw [e]
  · exact (h.setTimer _).applyPost p
  · exact h.setTimer _

end

/-- Offering a report under a hold is offering one report. -/
theorem offerHeld {s : State} {sg : State × GapTrack} (h : SettingsKept s sg.1) (make : Bool → Report) :
    SettingsKept s (State.offerHeld make sg).1 := by
  obtain ⟨gap, e⟩ := State.offerHeld_fst make sg
  rw [e]
  exact h.offer _

end SettingsKept

/-! ### The commands that keep them -/

/-- Whatever state a command answers, the four parts are kept. -/
def AnswersKept (s : State) (o : Result) : Prop := ∀ t, o = .next t → SettingsKept s t

theorem AnswersKept.next {s t : State} (h : SettingsKept s t) : AnswersKept s (.next t) := by
  rintro _ ⟨⟩
  exact h

section
variable (s : State)

/-! #### Grant intake -/

theorem execGrantNotice_kept (frame : List Byte) : AnswersKept s (execGrantNotice frame s) := by
  unfold execGrantNotice State.judgeNotice
  refine .next ?_
  split
  · exact ((SettingsKept.refl s).raise _).offer _
  · split
    · exact ((SettingsKept.refl s).raise _).offer _
    · exact (SettingsKept.refl s).setLane

theorem SettingsKept.handOver {s t : State} (h : SettingsKept s t) (l : LaneId) (g : Grant) :
    SettingsKept s (t.handOver l g) := by
  have lookup : SettingsKept s (t.beginLookup l g) := by
    unfold State.beginLookup
    split
    · exact h.setLane.raise _
    · exact h.setLane.requestRead _ _
  unfold State.handOver
  split
  · exact h.setLane
  · exact h.setLane
  all_goals exact lookup

theorem execGrantHandover_kept (l : LaneId) : AnswersKept s (execGrantHandover l s) := by
  unfold execGrantHandover
  refine .next ?_
  split
  · exact .refl s
  · next g rest _ =>
    have left : SettingsKept s (s.setLane l { s.lane l with queue := rest }) := (SettingsKept.refl s).setLane
    split
    · dsimp only
      split
      · exact (left.raise _).offer _
      · exact left.handOver l g
    · exact .refl s

/-! #### Lanes and noise monitors -/

theorem SettingsKept.completeLookup {s t : State} (h : SettingsKept s t) (l : LaneId) (start : Time) (slot : Nat)
    (image : Record) : SettingsKept s (t.completeLookup l start slot image) := by
  unfold State.completeLookup
  split
  · exact h
  · extract_lets r received
    have kept : SettingsKept s received := h.setLane
    by_cases misplaced : r.misplaced = true
    · rw [if_pos misplaced]
      exact kept.raise _
    · rwa [if_neg misplaced]

theorem execLookupReadComplete_kept (k : BankId) : AnswersKept s (execLookupReadComplete k s) := by
  unfold execLookupReadComplete
  refine .next ?_
  split
  · exact ((SettingsKept.refl s).freeBank k).completeLookup _ _ _ _
  · exact .refl s

theorem execWindowOpen_kept (l : LaneId) : AnswersKept s (execWindowOpen l s) := by
  unfold execWindowOpen
  refine .next ?_
  split
  · exact .refl s
  · split
    · exact .refl s
    · exact ((SettingsKept.refl s).setLane).withdrawReads _

theorem SettingsKept.offerResult {s t : State} (h : SettingsKept s t) (l : LaneId) (g : Grant) (r : BurstResult) :
    SettingsKept s (t.offerResult l g r) := by
  unfold State.offerResult
  split
  · exact h.setLane
  · exact (h.raise _).offer _

theorem execBurstComplete_kept (l : LaneId) (x : Samples) : AnswersKept s (execBurstComplete l x s) := by
  unfold execBurstComplete
  refine .next ?_
  split
  · exact .refl s
  · split
    · exact .refl s
    · split
      · exact (((SettingsKept.refl s).setLane).emit _).offerResult _ _ _
      · exact .refl s

theorem execSymbolUnitEmitted_kept : AnswersKept s (execSymbolUnitEmitted s) :=
  .next (.of_eq rfl rfl rfl rfl)

theorem execQuietStart_kept (l : LaneId) : AnswersKept s (execQuietStart l s) := by
  unfold execQuietStart
  refine .next ?_
  split
  · exact .refl s
  · exact (SettingsKept.refl s).setLane

theorem execQuietGrantDone_kept (l : LaneId) : AnswersKept s (execQuietGrantDone l s) := by
  unfold execQuietGrantDone
  refine .next ?_
  split
  · exact .refl s
  · exact (SettingsKept.refl s).setLane

theorem execIntervalMark_kept (l : LaneId) : AnswersKept s (execIntervalMark l s) :=
  .next ((SettingsKept.refl s).setLane)

theorem execNoiseMode_kept : AnswersKept s (execNoiseMode s) := by
  unfold execNoiseMode
  refine .next ?_
  have taken : SettingsKept s s.takeRequest := (SettingsKept.refl s).takeRequest
  split
  · dsimp only
    split
    · split
      · exact taken.setLane.answer _ _
      · exact taken.refuse _
    · exact taken.refuse _
  · exact .refl s

theorem execNoiseStatus_kept : AnswersKept s (execNoiseStatus s) := by
  unfold execNoiseStatus
  refine .next ?_
  have taken : SettingsKept s s.takeRequest := (SettingsKept.refl s).takeRequest
  split
  · dsimp only
    split
    · exact taken.answer _ _
    · exact taken.refuse _
  · exact .refl s

/-! #### The store and the deadline list -/

theorem execDrain_kept (k : BankId) : AnswersKept s (execDrain k s) := by
  unfold execDrain
  refine .next ?_
  split
  · exact ((SettingsKept.refl s).setBank _ _).freeBank _
  · exact .refl s

theorem execPostTakesEntry_kept (k : BankId) : AnswersKept s (execPostTakesEntry k s) := by
  unfold execPostTakesEntry
  refine .next ?_
  split
  · split
    · exact ((SettingsKept.refl s).setUpdate _).applyPost _
    · split
      · exact (((SettingsKept.refl s).setCommand _).applyPost _).commandPosted _ _
      · split
        · exact ((SettingsKept.refl s).setTimer _).applyPost _
        · exact .refl s
  · exact .refl s

theorem execHoldTaken_kept (slot : Nat) : AnswersKept s (execHoldTaken slot s) := by
  unfold execHoldTaken
  refine .next ?_
  split
  · split
    · exact ((SettingsKept.refl s).setCommand _).requestRead _ _
    · split
      · exact ((SettingsKept.refl s).setUpdate _).requestRead _ _
      · split
        · exact ((SettingsKept.refl s).setTimer _).requestRead _ _
        · exact .refl s
  · exact .refl s

theorem execDeadlineExpire_kept (slot : Nat) : AnswersKept s (execDeadlineExpire slot s) :=
  .next (.of_eq rfl rfl rfl rfl)

theorem execWithdrawalStart_kept : AnswersKept s (execWithdrawalStart s) := by
  unfold execWithdrawalStart
  refine .next ?_
  split
  · split
    · exact .refl s
    · exact (SettingsKept.refl s).timerAcquires _ _
  · exact .refl s

theorem execCorrectionWithdraw_kept : AnswersKept s (execCorrectionWithdraw s) := by
  unfold execCorrectionWithdraw
  refine .next ?_
  split
  · split
    · exact (SettingsKept.refl s).setTimer _
    · exact SettingsKept.timerPosts (.offerHeld ((SettingsKept.refl s).raise _) _) _ _
  · exact .refl s

/-! #### The update engine -/

theorem SettingsKept.reportUnheld {s t : State} (h : SettingsKept s t) (r : BurstResult) :
    SettingsKept s (t.reportUnheld r) := by
  unfold State.reportUnheld
  split
  · split
    · exact (h.raise _).offer _
    · exact h.offer _
    · exact h
  · exact h.offer _

theorem execUpdateTakeResult_kept : AnswersKept s (execUpdateTakeResult s) := by
  unfold execUpdateTakeResult
  refine .next ?_
  split
  · split
    · exact .refl s
    · next l r _ =>
      have left : SettingsKept s (s.setLane l { s.lane l with holder := (s.lane l).holder.tail }) :=
        (SettingsKept.refl s).setLane
      dsimp only
      split
      · exact left.updateAcquires _ _
      · exact left.reportUnheld r
  · exact .refl s

section
variable {s} {sg : State × GapTrack} (h : SettingsKept s sg.1)
include h

theorem SettingsKept.offerAbsorbed (slot : Nat) (image : Record) (cls : BurstClass) (start : Time) :
    SettingsKept s (State.offerAbsorbed slot image cls start sg).1 := by
  unfold State.offerAbsorbed
  split
  · exact .offerHeld h _
  · exact h

theorem SettingsKept.offerCorrection (slot : Nat) (image : Record) (w : Worked) (calls : Bool) :
    SettingsKept s (State.offerCorrection slot image w calls sg).1.1 := by
  unfold State.offerCorrection
  split
  · dsimp only
    split
    · exact .offerHeld h _
    · exact h.raise _
  · exact h

theorem SettingsKept.offerIf (called : Bool) (make : Bool → Report) :
    SettingsKept s (State.offerIf called make sg).1 := by
  unfold State.offerIf
  split
  · exact .offerHeld h _
  · exact h

theorem SettingsKept.offerChange (slot : Nat) (old : StationState) (c : Counted) :
    SettingsKept s (State.offerChange slot old c sg).1 := by
  unfold State.offerChange
  split
  · exact h
  · refine .offerHeld ?_ _
    dsimp only
    split
    · exact h.raise _
    · exact h

theorem SettingsKept.finishResult (slot : Nat) (r : BurstResult) (old : StationState) (image : Record) (c : Counted)
    (deadline : DeadlineChange) (report : BurstReport) (issued : Bool) :
    SettingsKept s (State.finishResult slot r old image c deadline report issued sg) :=
  ((h.offerIf _ _).offerChange slot old c).updatePosts _ _

end

theorem execUpdateProcess_kept : AnswersKept s (execUpdateProcess s) := by
  unfold execUpdateProcess
  refine .next ?_
  have started (image : Record) : SettingsKept s (s, GapTrack.start image).1 := .refl s
  split
  · split
    · exact ((SettingsKept.refl s).setUpdate _).offer _
    · split
      · exact (((started _).offerAbsorbed _ _ _ _).offerCorrection _ _ _ _).finishResult _ _ _ _ _ _ _ _
      · exact (started _).finishResult _ _ _ _ _ _ _ _
  · exact .refl s

/-! #### The station link -/

theorem execRequestArrival_kept (frame : List Byte) : AnswersKept s (execRequestArrival frame s) := by
  unfold execRequestArrival
  refine .next ?_
  split
  · exact .of_eq rfl rfl rfl rfl
  · have counted : SettingsKept s { s with replies := countRefusal (requestCode frame) s.replies } :=
      .of_eq rfl rfl rfl rfl
    exact counted.raise _

theorem execBadRequest_kept : AnswersKept s (execBadRequest s) := by
  unfold execBadRequest
  refine .next ?_
  split
  · split
    · exact ((SettingsKept.refl s).takeRequest).refuse _
    · exact .refl s
  · exact .refl s

theorem execOutgoingFrameEnd_kept : AnswersKept s (execOutgoingFrameEnd s) := by
  unfold execOutgoingFrameEnd
  refine .next ?_
  split
  · exact .refl s
  · exact SettingsKept.startSending (.of_eq rfl rfl rfl rfl)
  · exact SettingsKept.startSending (.of_eq rfl rfl rfl rfl)

theorem execProfileGet_kept : AnswersKept s (execProfileGet s) := by
  unfold execProfileGet
  refine .next ?_
  have taken : SettingsKept s s.takeRequest := (SettingsKept.refl s).takeRequest
  split
  · dsimp only
    split
    · exact taken.refuse _
    · exact taken.answer _ _
  · exact .refl s

theorem execAlertRead_kept : AnswersKept s (execAlertRead s) := by
  unfold execAlertRead
  refine .next ?_
  split
  · exact ((SettingsKept.refl s).takeRequest).answer _ _
  · exact .refl s

/-! #### Station requests (R16): taken from the queue, or carried out with the record in hand -/

theorem SettingsKept.beginRequest (sound : Bool) (slot : Nat) (request : Request) :
    SettingsKept s (s.beginRequest sound slot request) := by
  have taken : SettingsKept s s.takeRequest := (SettingsKept.refl s).takeRequest
  unfold State.beginRequest
  split
  · exact taken.commandAcquires _ _
  · exact taken.refuse _

theorem SettingsKept.reportAndPost {s : State} {sg : State × GapTrack} (h : SettingsKept s sg.1) (work : Request)
    (slot : Nat) (old new : StationState) (reason : StateReason) (image : Record) (deadline : DeadlineChange)
    (released taken : Option ProfileId) :
    SettingsKept s (State.reportAndPost work slot old new reason image deadline released taken sg) :=
  (SettingsKept.offerHeld h _).commandPosts _ _

theorem execAdmit_kept : AnswersKept s (execAdmit s) := by
  unfold execAdmit
  refine .next ?_
  split
  · split
    · split
      · exact (SettingsKept.refl s).refuse _
      · split
        · exact (SettingsKept.refl s).refuse _
        · exact .reportAndPost (.refl s) _ _ _ _ _ _ _ _ _
    · exact (SettingsKept.refl s).refuse _
  · split
    · exact .beginRequest s _ _ _
    · exact .refl s

theorem execRetire_kept : AnswersKept s (execRetire s) := by
  unfold execRetire
  refine .next ?_
  split
  · split
    · exact (SettingsKept.refl s).refuse _
    · exact .reportAndPost (.refl s) _ _ _ _ _ _ _ _ _
  · split
    · exact .beginRequest s _ _ _
    · exact .refl s

theorem SettingsKept.offerMoveWithdrawn (slot : Nat) (image : Record) :
    SettingsKept s (s.offerMoveWithdrawn slot image).1 := by
  unfold State.offerMoveWithdrawn
  split
  · exact .refl s
  · exact .offerHeld ((SettingsKept.refl s).raise _) _

theorem execMove_kept : AnswersKept s (execMove s) := by
  unfold execMove
  refine .next ?_
  split
  · split
    · exact (SettingsKept.refl s).refuse _
    · split
      · exact (SettingsKept.refl s).refuse _
      · exact .reportAndPost (.offerMoveWithdrawn s _ _) _ _ _ _ _ _ _ _ _
  · split
    · exact .beginRequest s _ _ _
    · exact .refl s

theorem execRecover_kept : AnswersKept s (execRecover s) := by
  unfold execRecover
  refine .next ?_
  split
  · split
    · exact (SettingsKept.refl s).refuse _
    · split
      · exact (SettingsKept.refl s).refuse _
      · exact .reportAndPost (.refl s) _ _ _ _ _ _ _ _ _
  · split
    · exact .beginRequest s _ _ _
    · exact .refl s

theorem execAmend_kept : AnswersKept s (execAmend s) := by
  unfold execAmend
  refine .next ?_
  split
  · split
    · exact (SettingsKept.refl s).refuse _
    · split
      · exact (SettingsKept.refl s).refuse _
      · split
        · exact (SettingsKept.refl s).refuse _
        · exact (SettingsKept.refl s).commandPosts _ _
  · split
    · exact .beginRequest s _ _ _
    · exact .refl s

theorem execFetch_kept : AnswersKept s (execFetch s) := by
  unfold execFetch
  refine .next ?_
  split
  · split
    · exact (SettingsKept.refl s).refuse _
    · split
      · exact (SettingsKept.refl s).refuse _
      · exact (SettingsKept.refl s).answer _ _
  · split
    · split
      · exact (((SettingsKept.refl s).takeRequest).setCommand _).requestRead _ _
      · exact ((SettingsKept.refl s).takeRequest).refuse _
    · exact .refl s

theorem execMapTags_kept : AnswersKept s (execMapTags s) := by
  unfold execMapTags
  refine .next ?_
  split
  · split
    · exact (SettingsKept.refl s).refuse _
    · exact (SettingsKept.refl s).commandPosts _ _
  · split
    · exact .beginRequest s _ _ _
    · exact .refl s

theorem execUnmapTags_kept : AnswersKept s (execUnmapTags s) := by
  unfold execUnmapTags
  refine .next ?_
  split
  · split
    · exact (SettingsKept.refl s).refuse _
    · split
      · exact (SettingsKept.refl s).refuse _
      · exact (SettingsKept.refl s).commandPosts _ _
  · split
    · exact .beginRequest s _ _ _
    · exact .refl s

theorem execClearAll_kept : AnswersKept s (execClearAll s) := by
  unfold execClearAll
  refine .next ?_
  split
  · exact ((SettingsKept.refl s).takeRequest).setCommand _
  · exact .refl s

theorem execClearAllSlot_kept : AnswersKept s (execClearAllSlot s) := by
  unfold execClearAllSlot
  refine .next ?_
  split
  · exact (SettingsKept.refl s).commandAcquires _ _
  · split
    · exact (SettingsKept.refl s).walkOn _
    · exact (SettingsKept.refl s).commandPosts _ _
  · exact .refl s

theorem execDelivered_kept : AnswersKept s (execDelivered s) := by
  unfold execDelivered
  refine .next ?_
  split
  · split
    · exact (SettingsKept.refl s).commandPosts _ _
    · exact (SettingsKept.refl s).refuse _
  · split
    · split
      · exact ((SettingsKept.refl s).takeRequest).commandAcquires _ _
      · exact ((SettingsKept.refl s).takeRequest).refuse _
    · exact .refl s

/-! #### Sweeps -/

section
variable {s t : State} (h : SettingsKept s t)
include h

theorem SettingsKept.sweepReads (r : SweepRun) : SettingsKept s (t.sweepReads r) := by
  unfold State.sweepReads
  split
  · exact h.setSweep _
  · exact (h.setRun r).requestRead _ _

theorem SettingsKept.offerFrame (r : SweepRun) : SettingsKept s (t.offerFrame r) := (h.offer _).sweepReads _

theorem SettingsKept.completeSweepRead (slot : Nat) (image : Record) (granted : Time) :
    SettingsKept s (t.completeSweepRead slot image granted) := by
  have proceeds (r : SweepRun) : SettingsKept s (t.sweepProceeds r) := by
    unfold State.sweepProceeds
    split
    · split
      · exact h.offerFrame r
      · exact h.setRun r
    · exact h.sweepReads r
  unfold State.completeSweepRead
  split
  · split
    · exact proceeds _
    · exact h
  · exact h

theorem SettingsKept.sweepStops (result : SweepResult) (r : SweepRun) : SettingsKept s (t.sweepStops result r) :=
  (h.setSweep _).withdrawReads _

end

theorem execSweep_kept : AnswersKept s (execSweep s) := by
  unfold execSweep
  refine .next ?_
  have taken : SettingsKept s s.takeRequest := (SettingsKept.refl s).takeRequest
  split
  · dsimp only
    split
    · exact taken.refuse _
    · split
      · exact taken.refuse _
      · split
        · exact taken.refuse _
        · exact ((taken.setSweep _).sweepReads _).answer _ _
  · exact .refl s

theorem execSweepStop_kept : AnswersKept s (execSweepStop s) := by
  unfold execSweepStop
  refine .next ?_
  have taken : SettingsKept s s.takeRequest := (SettingsKept.refl s).takeRequest
  split
  · split
    · exact (taken.sweepStops _ _).answer _ _
    · exact taken.refuse _
  · exact .refl s

theorem execSweepStatus_kept : AnswersKept s (execSweepStatus s) := by
  unfold execSweepStatus
  refine .next ?_
  split
  · exact ((SettingsKept.refl s).takeRequest).answer _ _
  · exact .refl s

theorem execSweepReadComplete_kept : AnswersKept s (execSweepReadComplete s) := by
  unfold execSweepReadComplete
  refine .next ?_
  split
  · exact ((SettingsKept.refl s).freeBank _).completeSweepRead _ _ _
  · exact .refl s

theorem execSweepFrameOffer_kept : AnswersKept s (execSweepFrameOffer s) := by
  unfold execSweepFrameOffer
  refine .next ?_
  split
  · split
    · exact (SettingsKept.refl s).offerFrame _
    · exact .refl s
  · exact .refl s

theorem execSweepEnd_kept : AnswersKept s (execSweepEnd s) := by
  unfold execSweepEnd
  refine .next ?_
  split
  · split
    · exact (((SettingsKept.refl s).setSweep _).offer _).raise _
    · exact .refl s
  · exact .refl s

theorem execSweepDeadlineExpire_kept : AnswersKept s (execSweepDeadlineExpire s) := by
  unfold execSweepDeadlineExpire
  refine .next ?_
  split
  · split
    · exact (SettingsKept.refl s).sweepStops _ _
    · exact .refl s
  · exact .refl s

/-! #### A bank's read -/

theorem SettingsKept.deliver {s t : State} (h : SettingsKept s t) (who : Option Requester) (slot : Nat) (image : Record)
    (granted : Time) : SettingsKept s (t.deliver who slot image granted) := by
  unfold State.deliver
  split
  · exact h
  · exact h.completeLookup _ _ _ _
  · unfold State.updateReceives
    split
    · split
      · exact h.setUpdate _
      · exact h
    · exact h
  · unfold State.commandReceives
    split
    · split
      · exact h.setCommand _
      · exact h
    · exact h
  · unfold State.timerReceives
    split
    · split
      · exact h.setTimer _
      · exact h
    · exact h
  · exact h.completeSweepRead _ _ _

theorem execBankReadComplete_kept (k : BankId) : AnswersKept s (execBankReadComplete k s) := by
  unfold execBankReadComplete
  refine .next ?_
  split
  · exact ((SettingsKept.refl s).freeBank k).deliver _ _ _ _
  · exact .refl s

end

/-! ### The commands that write them -/

/-- What a command may change of the four parts: each changes by its own commands alone. -/
def OwnCommandsOnly (c : Instr) (s t : State) : Prop :=
  (s.clock.synchronised = true → t.clock.synchronised = true) ∧
  ((∀ a b, c ≠ .syncPulse a b) → t.clock.synchronised = s.clock.synchronised) ∧
  ((∀ a b, c ≠ .syncPulse a b) → c ≠ .tick → t.clock.count = s.clock.count) ∧
  (∀ l, (t.lane l).mode ≠ (s.lane l).mode → c = .laneStart ∨ c = .laneStop ∨ ∃ power, c = .noiseLatch l power) ∧
  (∀ l, (t.lane l).settings ≠ (s.lane l).settings → c = .laneSet ∧ (s.lane l).mode = .off) ∧
  (∀ p, (s.profileEntry p).useCount ≠ 0 → t.profile p = s.profile p) ∧
  (∀ p, t.profile p ≠ s.profile p → c = .profileSet) ∧
  (c ≠ .alertAck → ∀ x, flagged s x → flagged t x) ∧
  (c ≠ .alertSet → t.alert = { s.alert with flags := t.alert.flags })

/-- Whatever keeps the four parts may follow a command's own change. -/
theorem OwnCommandsOnly.trans_kept {c : Instr} {s t u : State} (own : OwnCommandsOnly c s t) (kept : SettingsKept t u) :
    OwnCommandsOnly c s u := by
  obtain ⟨sync, syncSame, count, mode, settings, used, profile, flags, alert⟩ := own
  obtain ⟨grow, alertSettings⟩ := kept.alert
  refine ⟨?_, ?_, ?_, ?_, ?_, ?_, ?_, fun hc x hx => grow x (flags hc x hx), fun hc => ?_⟩
  · rwa [kept.synchronised]
  · rwa [kept.synchronised]
  · rwa [kept.count]
  · simpa only [kept.mode] using mode
  · simpa only [kept.settings] using settings
  · simpa only [kept.profile] using used
  · simpa only [kept.profile] using profile
  · rw [alertSettings, alert hc]

theorem OwnCommandsOnly.refl (c : Instr) (s : State) : OwnCommandsOnly c s s :=
  ⟨id, fun _ => rfl, fun _ _ => rfl, fun _ h => absurd rfl h, fun _ h => absurd rfl h, fun _ _ => rfl,
    fun _ h => absurd rfl h, fun _ _ => id, fun _ => rfl⟩

theorem SettingsKept.ownCommandsOnly {s t : State} (kept : SettingsKept s t) (c : Instr) : OwnCommandsOnly c s t :=
  (OwnCommandsOnly.refl c s).trans_kept kept

/-- A command that changes the state or the settings of one lane. -/
theorem OwnCommandsOnly.setLane {c : Instr} {s : State} {l : LaneId} {x : Lane}
    (mode : x.mode = (s.lane l).mode ∨ c = .laneStart ∨ c = .laneStop ∨ ∃ power, c = .noiseLatch l power)
    (settings : x.settings = (s.lane l).settings ∨ c = .laneSet ∧ (s.lane l).mode = .off) :
    OwnCommandsOnly c s (s.setLane l x) := by
  refine ⟨id, fun _ => rfl, fun _ _ => rfl, fun k changed => ?_, fun k changed => ?_, fun _ _ => rfl,
    fun _ h => absurd rfl h, fun _ _ => id, fun _ => rfl⟩
  · by_cases at_ : k = l
    · subst at_
      exact mode.resolve_left (by simpa using changed)
    · exact absurd (by rw [State.lane_setLane_other _ _ at_]) changed
  · by_cases at_ : k = l
    · subst at_
      exact settings.resolve_left (by simpa using changed)
    · exact absurd (by rw [State.lane_setLane_other _ _ at_]) changed

/-- Whatever state a command answers, only what is its own has changed. -/
def AnswersOwn (c : Instr) (s : State) (o : Result) : Prop := ∀ t, o = .next t → OwnCommandsOnly c s t

theorem AnswersOwn.next {c : Instr} {s t : State} (h : OwnCommandsOnly c s t) : AnswersOwn c s (.next t) := by
  rintro _ ⟨⟩
  exact h

theorem AnswersKept.own {s : State} {o : Result} (h : AnswersKept s o) (c : Instr) : AnswersOwn c s o :=
  fun t ht => (h t ht).ownCommandsOnly c

section
variable (s : State)

/-- The tests of a change of the count touch a lane's monitor alone (R155). -/
theorem SettingsKept.countChanged {s t : State} (h : SettingsKept s t) (change : CountChange) :
    SettingsKept s (t.countChanged change) :=
  h.trans ⟨rfl, rfl, by simp [Lane.atCount], by simp [Lane.atCount], by simp, .of_eq rfl⟩

theorem execTick_own : AnswersOwn .tick s (execTick s) := by
  have advanced : OwnCommandsOnly .tick s { s with clock := { s.clock with count := s.clock.count + 1 } } :=
    ⟨id, fun _ => rfl, fun _ h => absurd rfl h, fun _ h => absurd rfl h, fun _ h => absurd rfl h, fun _ _ => rfl,
      fun _ h => absurd rfl h, fun _ _ => id, fun _ => rfl⟩
  exact .next (advanced.trans_kept ((SettingsKept.refl _).countChanged _))

/-- A slip flushes every lane, whose state and settings stay (R46). -/
theorem SettingsKept.slip {s t : State} (h : SettingsKept s t) (reportOrder unitOrder : List LaneId) :
    SettingsKept s (t.slip reportOrder unitOrder) := by
  have flushed : SettingsKept t { t with lanes := t.lanes.map Lane.flushed } :=
    ⟨rfl, rfl, by simp [State.lane, Lane.flushed], by simp [State.lane, Lane.flushed], fun _ => rfl, .of_eq rfl⟩
  exact (((((h.trans flushed).raise _).withdrawReads _).emitAll _).offerAll _).countChanged _

theorem execSyncPulse_own (a b : List LaneId) : AnswersOwn (.syncPulse a b) s (execSyncPulse a b s) := by
  unfold execSyncPulse
  refine .next ?_
  split
  · exact .refl _ s
  · next v _ =>
    have loaded : OwnCommandsOnly (.syncPulse a b) s { s with clock := { count := v, synchronised := true, armed := none } } :=
      ⟨fun _ => rfl, fun h => absurd rfl (h a b), fun h => absurd rfl (h a b), fun _ h => absurd rfl h,
        fun _ h => absurd rfl h, fun _ _ => rfl, fun _ h => absurd rfl h, fun _ _ => id, fun _ => rfl⟩
    dsimp only
    split
    · split
      · exact loaded.trans_kept ((SettingsKept.refl _).countChanged _)
      · exact loaded.trans_kept ((SettingsKept.refl _).slip a b)
    · exact loaded

theorem execClockSet_kept : AnswersKept s (execClockSet s) := by
  unfold execClockSet
  refine .next ?_
  split
  · next v _ =>
    have armed : SettingsKept s { s.takeRequest with clock := { s.clock with armed := some v } } :=
      ⟨rfl, rfl, fun _ => rfl, fun _ => rfl, fun _ => rfl, .of_eq rfl⟩
    exact armed.answer _ _
  · exact .refl s

theorem execLaneSet_own : AnswersOwn .laneSet s (execLaneSet s) := by
  unfold execLaneSet
  refine .next ?_
  have taken : SettingsKept s s.takeRequest := (SettingsKept.refl s).takeRequest
  split
  · dsimp only
    split
    · next l settings _ _ =>
      split
      · next off =>
        have written : OwnCommandsOnly .laneSet s (s.setLane l { s.lane l with settings := settings }) :=
          .setLane (.inl rfl) (.inr ⟨rfl, off⟩)
        exact written.trans_kept (((SettingsKept.refl _).takeRequest).answer _ _)
      · exact (taken.refuse _).ownCommandsOnly _
    · exact (taken.refuse _).ownCommandsOnly _
  · exact .refl _ s

theorem execLaneStart_own : AnswersOwn .laneStart s (execLaneStart s) := by
  unfold execLaneStart
  refine .next ?_
  have taken : SettingsKept s s.takeRequest := (SettingsKept.refl s).takeRequest
  split
  · dsimp only
    split
    · next l _ =>
      split
      · have started : OwnCommandsOnly .laneStart s (s.setLane l { s.lane l with mode := .run }) :=
          .setLane (.inr (.inl rfl)) (.inl rfl)
        exact started.trans_kept (((SettingsKept.refl _).takeRequest).answer _ _)
      · exact (taken.refuse _).ownCommandsOnly _
    · exact (taken.refuse _).ownCommandsOnly _
  · exact .refl _ s

theorem execLaneStop_own : AnswersOwn .laneStop s (execLaneStop s) := by
  unfold execLaneStop
  refine .next ?_
  split
  · split
    · next l _ =>
      have stopped : OwnCommandsOnly .laneStop s (s.setLane l (s.lane l).stopped) :=
        .setLane (.inr (.inr (.inl rfl))) (.inl rfl)
      have rest : SettingsKept (s.setLane l (s.lane l).stopped) (s.takeRequest.stopLane l) :=
        (((SettingsKept.refl _).takeRequest.withdrawReads _).emitAll _).offerAll _
      exact stopped.trans_kept (rest.answer _ _)
    · exact ((SettingsKept.refl s).takeRequest.refuse _).ownCommandsOnly _
  · exact .refl _ s

theorem SettingsKept.raiseTransition {s t : State} (h : SettingsKept s t) (change : StormTransition) :
    SettingsKept s (t.raiseTransition change) := by
  cases change
  case none => exact h
  case entered => exact h.raise _
  case left => exact h.raise _

theorem execNoiseLatch_own (l : LaneId) (power : Int) :
    AnswersOwn (.noiseLatch l power) s (execNoiseLatch l power s) := by
  unfold execNoiseLatch
  refine .next ?_
  split
  · exact .refl _ s
  · next g _ =>
    have latched : OwnCommandsOnly (.noiseLatch l power) s (s.setLane l ((s.lane l).latch g.start power)) :=
      .setLane (.inr (.inr (.inr ⟨power, rfl⟩))) (.inl rfl)
    exact latched.trans_kept (((SettingsKept.refl _).raiseTransition _).offer _)

theorem execProfileSet_own : AnswersOwn .profileSet s (execProfileSet s) := by
  unfold execProfileSet
  refine .next ?_
  have taken : SettingsKept s s.takeRequest := (SettingsKept.refl s).takeRequest
  split
  · dsimp only
    split
    · exact (taken.refuse _).ownCommandsOnly _
    · next p _ =>
      split
      · exact (taken.refuse _).ownCommandsOnly _
      · next fields _ =>
        split
        · next unused =>
          have written : OwnCommandsOnly .profileSet s (s.setProfileEntry p { s.profileEntry p with fields := fields }) := by
            refine ⟨id, fun _ => rfl, fun _ _ => rfl, fun _ h => absurd rfl h, fun _ h => absurd rfl h,
              fun q used => ?_, fun _ _ => rfl, fun _ _ => id, fun _ => rfl⟩
            have other : q ≠ p := by rintro rfl; exact used unused
            rw [State.profile, State.profileEntry_set_other _ _ other, State.profile]
          exact written.trans_kept (((SettingsKept.refl _).takeRequest).answer _ _)
        · exact (taken.refuse _).ownCommandsOnly _
  · exact .refl _ s

/-- A command that changes the alert unit, and neither clock, lanes nor profiles. -/
theorem OwnCommandsOnly.setAlert {c : Instr} {s : State} {u : AlertUnit}
    (flags : c ≠ .alertAck → u.flags = s.alert.flags) (settings : c ≠ .alertSet → u = { s.alert with flags := u.flags }) :
    OwnCommandsOnly c s { s with alert := u } :=
  ⟨id, fun _ => rfl, fun _ _ => rfl, fun _ h => absurd rfl h, fun _ h => absurd rfl h, fun _ _ => rfl,
    fun _ h => absurd rfl h, fun hc x hx => by simpa [flagged, AlertUnit.flag, flags hc] using hx, settings⟩

theorem execAlertAck_own : AnswersOwn .alertAck s (execAlertAck s) := by
  unfold execAlertAck
  refine .next ?_
  have taken : SettingsKept s s.takeRequest := (SettingsKept.refl s).takeRequest
  split
  · dsimp only
    split
    · exact (taken.refuse _).ownCommandsOnly _
    · next named _ =>
      have cleared : OwnCommandsOnly .alertAck s
          { s with alert := { s.alert with flags := s.alert.flags &&& ~~~named } } :=
        .setAlert (fun h => absurd rfl h) (fun _ => rfl)
      exact cleared.trans_kept (((SettingsKept.refl _).takeRequest).answer _ _)
  · exact .refl _ s

theorem execAlertSet_own : AnswersOwn .alertSet s (execAlertSet s) := by
  unfold execAlertSet
  refine .next ?_
  have taken : SettingsKept s s.takeRequest := (SettingsKept.refl s).takeRequest
  split
  · next enables plant station flow service threshold _ =>
    dsimp only
    split
    · exact (taken.refuse _).ownCommandsOnly _
    · next on _ =>
      split
      · have written : OwnCommandsOnly .alertSet s { s with alert := { s.alert with
            enables := on, plant := plant, station := station, flow := flow, service := service, threshold := threshold } } :=
          .setAlert (fun _ => rfl) (fun h => absurd rfl h)
        exact written.trans_kept (((SettingsKept.refl _).takeRequest).answer _ _)
      · exact (taken.refuse _).ownCommandsOnly _
  · exact .refl _ s

end

/-- Every command but RESET changes of the four parts only what is its own. -/
theorem exec_own (c : Instr) (s : State) (notReset : c ≠ .reset) : AnswersOwn c s (exec c s) := by
  cases c with
  | reset => exact absurd rfl notReset
  | tick => exact execTick_own s
  | syncPulse a b => exact execSyncPulse_own s a b
  | noiseLatch l power => exact execNoiseLatch_own s l power
  | profileSet => exact execProfileSet_own s
  | laneSet => exact execLaneSet_own s
  | laneStart => exact execLaneStart_own s
  | laneStop => exact execLaneStop_own s
  | alertAck => exact execAlertAck_own s
  | alertSet => exact execAlertSet_own s
  | grantNotice frame => exact (execGrantNotice_kept s frame).own _
  | grantHandover l => exact (execGrantHandover_kept s l).own _
  | lookupReadComplete k => exact (execLookupReadComplete_kept s k).own _
  | windowOpen l => exact (execWindowOpen_kept s l).own _
  | burstComplete l x => exact (execBurstComplete_kept s l x).own _
  | symbolUnitEmitted => exact (execSymbolUnitEmitted_kept s).own _
  | quietStart l => exact (execQuietStart_kept s l).own _
  | quietGrantDone l => exact (execQuietGrantDone_kept s l).own _
  | intervalMark l => exact (execIntervalMark_kept s l).own _
  | bankReadComplete k => exact (execBankReadComplete_kept s k).own _
  | drain k => exact (execDrain_kept s k).own _
  | postTakesEntry k => exact (execPostTakesEntry_kept s k).own _
  | holdTaken slot => exact (execHoldTaken_kept s slot).own _
  | updateTakeResult => exact (execUpdateTakeResult_kept s).own _
  | updateProcess => exact (execUpdateProcess_kept s).own _
  | deadlineExpire slot => exact (execDeadlineExpire_kept s slot).own _
  | withdrawalStart => exact (execWithdrawalStart_kept s).own _
  | correctionWithdraw => exact (execCorrectionWithdraw_kept s).own _
  | requestArrival frame => exact (execRequestArrival_kept s frame).own _
  | badRequest => exact (execBadRequest_kept s).own _
  | admitStation => exact (execAdmit_kept s).own _
  | retire => exact (execRetire_kept s).own _
  | move => exact (execMove_kept s).own _
  | recover => exact (execRecover_kept s).own _
  | amend => exact (execAmend_kept s).own _
  | fetch => exact (execFetch_kept s).own _
  | mapTags => exact (execMapTags_kept s).own _
  | unmapTags => exact (execUnmapTags_kept s).own _
  | clearAll => exact (execClearAll_kept s).own _
  | clearAllSlot => exact (execClearAllSlot_kept s).own _
  | delivered => exact (execDelivered_kept s).own _
  | profileGet => exact (execProfileGet_kept s).own _
  | noiseMode => exact (execNoiseMode_kept s).own _
  | noiseStatus => exact (execNoiseStatus_kept s).own _
  | clockSet => exact (execClockSet_kept s).own _
  | sweep => exact (execSweep_kept s).own _
  | sweepStop => exact (execSweepStop_kept s).own _
  | sweepStatus => exact (execSweepStatus_kept s).own _
  | sweepReadComplete => exact (execSweepReadComplete_kept s).own _
  | sweepFrameOffer => exact (execSweepFrameOffer_kept s).own _
  | sweepEnd => exact (execSweepEnd_kept s).own _
  | sweepDeadlineExpire => exact (execSweepDeadlineExpire_kept s).own _
  | alertRead => exact (execAlertRead_kept s).own _
  | outgoingFrameEnd => exact (execOutgoingFrameEnd_kept s).own _

/-- Settles O58: the writers' own changes, and `SettingsKept` for every other command. -/
theorem settingsChangeOnlyByTheirCommands : Obligations.SettingsChangeOnlyByTheirCommands :=
  fun c s t notReset answered => exec_own c s notReset t answered

end Sys2Proof.Machine.PlantIntake
end

section
/-! ## Grant intake: the checks of a grant notice and the hand-over of a due head (R51 to R56, R67, R68) -/

namespace Sys2Proof.Machine.PlantIntake

/-! ### The kinds and their codes (R49, R172) -/

theorem kindOf_eq_some {n : Nat} {kind : GrantKind} : kindOf n = some kind ↔ kind.code = n := by
  constructor
  · intro h
    unfold kindOf at h
    split at h <;> cases h <;> rfl
  · rintro rfl
    cases kind <;> rfl

theorem code_lt (kind : GrantKind) : kind.code < 5 := by
  cases kind <;> decide

/-- The kinds that name a transmitter are those of the codes 1 to 3. -/
theorem named_iff (kind : GrantKind) : kind.named = true ↔ 1 ≤ kind.code ∧ kind.code ≤ 3 := by
  cases kind <;> decide

/-! ### Check 1 of R51 -/

/-- A notice is sound for a lane and a grant when its frame, lane, kind, length and tag pass check 1. -/
theorem sound_eq_some_iff (s : State) (n : Notice) (l : LaneId) (g : Grant) :
    n.sound s = some (l, g) ↔ ∃ kind : GrantKind, l.val = n.lane ∧ kind.code = n.kind ∧ n.wellSized = true ∧
      32 ≤ n.length ∧ n.length ≤ 4096 ∧ (s.lane l).settings.preamble < n.length ∧
      (kind.named = true → n.tag < 16384) ∧ n.grant kind = g := by
  unfold Notice.sound
  constructor
  · intro h
    split at h
    · next lane kind hl hk =>
      rw [laneOf_eq_some] at hl
      rw [kindOf_eq_some] at hk
      split at h
      · next passes =>
        obtain ⟨sized, low, high, preamble, tag⟩ := passes
        cases h
        exact ⟨kind, hl, hk, sized, low, high, preamble, tag, rfl⟩
      · cases h
    · cases h
  · rintro ⟨kind, hl, hk, sized, low, high, preamble, tag, rfl⟩
    rw [← laneOf_eq_some] at hl
    rw [← kindOf_eq_some] at hk
    rw [hl, hk]
    exact if_pos ⟨sized, low, high, preamble, tag⟩

/-- Every way in which a notice fails check 1. -/
theorem sound_eq_none {s : State} {n : Notice}
    (bad : n.wellSized ≠ true ∨ 4 ≤ n.lane ∨ 5 ≤ n.kind ∨ n.length < 32 ∨ 4096 < n.length ∨
      (∃ l : LaneId, l.val = n.lane ∧ n.length ≤ (s.lane l).settings.preamble) ∨
      (1 ≤ n.kind ∧ n.kind ≤ 3 ∧ 16384 ≤ n.tag)) : n.sound s = none := by
  rw [Option.eq_none_iff_forall_not_mem]
  rintro ⟨l, g⟩ sound
  obtain ⟨kind, hl, hk, sized, low, high, preamble, tag, -⟩ := (sound_eq_some_iff s n l g).1 sound
  rcases bad with h | h | h | h | h | ⟨k, hkl, h⟩ | ⟨one, three, h⟩
  · exact h sized
  · omega
  · have := code_lt kind
    omega
  · omega
  · omega
  · obtain rfl : k = l := Fin.ext (hkl.trans hl.symm)
    omega
  · have := tag ((named_iff kind).2 (by omega))
    omega

/-- The grant a notice asks for carries its tag unless the kind is OPEN or QUIET (R49). -/
theorem notice_grant_eq {n : Notice} {kind : GrantKind} (h : kind.code = n.kind) :
    n.grant kind = { start := n.start, length := n.length, kind := kind
                     tag := if n.kind = 0 ∨ n.kind = 4 then none else some n.tag } := by
  unfold Notice.grant
  rw [← h]
  cases kind <;> rfl

theorem judgeNotice_unsound {s : State} {n : Notice} (h : n.sound s = none) :
    s.judgeNotice n = s.refuseGrant (n.refusedReport .badNotice) := by
  simp only [State.judgeNotice, h]

/-! ### Checks 2 to 8 of R51 -/

/-- The order in which the checks refuse. -/
theorem grantRefusal_eq (clock : Clock) (l : Lane) (g : Grant) :
    grantRefusal clock l g =
      if clock.synchronised = false then some .unsync
      else if l.mode = .off then some .laneOff
      else if 2147483648 ≤ (g.start - (clock.count + BitVec.ofNat 32 l.settings.lookahead)).toNat then some .late
      else if 4194304 < (g.start - clock.count).toNat then some .far
      else if ∃ t, l.tail = some t ∧ 2147483648 ≤ (clock.count - t.finish).toNat ∧
          2147483648 ≤ (g.start - t.start).toNat then some .order
      else if ∃ t, l.tail = some t ∧ 2147483648 ≤ (clock.count - t.finish).toNat ∧
          2147483648 ≤ (g.start - t.finish).toNat then some .overlap
      else if 32 ≤ l.queue.length then some .full
      else none := by
  unfold grantRefusal
  rw [show Config.grantQueue = 32 from rfl, show Config.farLimit = 4194304 from rfl]
  simp only [before_iff, later, elapsed]
  cases l.tail with
  | none => simp only [reduceCtorEq, false_and, exists_false, if_false]
  | some t => simp only [Option.some.injEq, exists_eq_left']

/-- One check of a chain, judged. -/
theorem elim_ite_some {α β : Type} (c : Prop) [Decidable c] (a : α) (o : Option α) (y : β) (f : α → β) :
    (if c then some a else o).elim y f = if c then f a else o.elim y f := by
  split <;> rfl

theorem judgeNotice_sound {s : State} {n : Notice} {l : LaneId} {g : Grant} (h : n.sound s = some (l, g)) :
    s.judgeNotice n = (grantRefusal s.clock (s.lane l) g).elim (s.setLane l ((s.lane l).append g))
      fun reason => s.refuseGrant (n.refusedReport reason) := by
  simp only [State.judgeNotice, h]
  cases grantRefusal s.clock (s.lane l) g <;> rfl

/-- Settles O7: the two clauses are the two answers of check 1. -/
theorem grantNoticeChecks : Obligations.GrantNoticeChecks := by
  unfold Obligations.GrantNoticeChecks
  intro s frame n refused
  have sized_iff : n.wellSized = true ↔ frame.length = 10 := decide_eq_true_iff
  refine ⟨fun bad => ?_, fun l kind sized hl hk low high preamble tag => ?_⟩
  · rw [Ne, ← sized_iff] at bad
    exact congrArg _ (judgeNotice_unsound (sound_eq_none bad))
  · have named_tag (named : kind.named = true) : n.tag < 16384 := by
      rw [named_iff, hk] at named
      exact tag named.1 named.2
    have sound : n.sound s = some (l, n.grant kind) :=
      (sound_eq_some_iff s n l _).2 ⟨kind, hl, hk, sized_iff.2 sized, low, high, preamble, named_tag, rfl⟩
    show Host.Outcome.next (s.judgeNotice n) = _
    rw [judgeNotice_sound sound, notice_grant_eq hk, grantRefusal_eq]
    simp only [elim_ite_some, Option.elim_none]
    rfl

/-! ### The hand-over of a due head (R54 to R56) -/

/-- Of two writes of one lane the later one counts. -/
theorem setLane_setLane (s : State) (l : LaneId) (x y : Lane) : (s.setLane l x).setLane l y = s.setLane l y := by
  simp [State.setLane]

theorem hasRoom_iff (l : Lane) : l.hasRoom = true ↔ l.held.length < 2 := by
  simp only [Lane.hasRoom, decide_eq_true_eq]
  exact Iff.rfl

theorem due_iff (now : Time) (g : Grant) (l : Lane) :
    l.due now g = true ↔ (now - (g.start - BitVec.ofNat 32 l.settings.lookahead)).toNat < 2147483648 :=
  atOrAfter_iff _ _

/-- A head that is not due, or finds no room, stays in its queue (R55). -/
theorem execGrantHandover_stays {s : State} {l : LaneId} {g : Grant} {rest : List Grant}
    (head : (s.lane l).queue = g :: rest) (h : ¬ ((s.lane l).held.length < 2 ∧ (s.lane l).due s.now g = true)) :
    execGrantHandover l s = .next s := by
  rw [← hasRoom_iff] at h
  simp only [execGrantHandover, head]
  rw [if_neg (by simpa using h)]

/-- A due head that finds room leaves: refused LATE when its start has come, else handed over (R55, R56). -/
theorem execGrantHandover_leaves {s : State} {l : LaneId} {g : Grant} {rest : List Grant}
    (head : (s.lane l).queue = g :: rest) (room : (s.lane l).held.length < 2) (due : (s.lane l).due s.now g = true) :
    execGrantHandover l s = .next (
      if atOrAfter s.now g.start then
        (s.setLane l { s.lane l with queue := rest }).refuseGrant
          { lane := l.val, start := g.start, length := g.length, kind := g.kind.code, tag := g.tag, reason := .late }
      else (s.setLane l { s.lane l with queue := rest }).handOver l g) := by
  rw [← hasRoom_iff] at room
  simp only [execGrantHandover, head, room, due, Bool.and_self, if_true]

/-! ### The lookup of a grant that names a transmitter (R67, R68) -/

/-- The state with its head gone from the queue, and held by the lane under a reception. -/
theorem left_hold (s : State) (l : LaneId) (g : Grant) (rest : List Grant) (r : Reception) :
    (s.setLane l { s.lane l with queue := rest }).setLane l
        (((s.setLane l { s.lane l with queue := rest }).lane l).hold g r) =
      s.setLane l { s.lane l with queue := rest, held := (s.lane l).held ++ [{ grant := g, reception := r }] } := by
  rw [setLane_setLane, State.lane_setLane_same]
  rfl

/-- OPEN and QUIET grants need no lookup, every other kind begins one (R67). -/
theorem handOver_lookup {g : Grant} (notOpen : g.kind ≠ .opened) (notQuiet : g.kind ≠ .quiet) (l : LaneId) (s : State) :
    s.handOver l g = s.beginLookup l g := by
  unfold State.handOver
  split
  · next h => exact absurd h notOpen
  · next h => exact absurd h notQuiet
  all_goals rfl

theorem beginLookup_unmapped {s : State} {g : Grant} (h : ∀ tag, g.tag = some tag → tagFind s.tagMap tag = none)
    (l : LaneId) :
    s.beginLookup l g = (s.setLane l ((s.lane l).hold g (.orphan (s.profile 0).trackWindow))).raise .orphanGrant := by
  have unmapped : g.tag.bind (tagFind s.tagMap) = none := Option.bind_eq_none_iff.2 h
  simp only [State.beginLookup, unmapped]

theorem beginLookup_mapped {s : State} {g : Grant} {tag slot : Nat} (tagged : g.tag = some tag)
    (mapped : tagFind s.tagMap tag = some slot) (l : LaneId) :
    s.beginLookup l g =
      State.requestRead (.lookup l g.start) slot (s.setLane l ((s.lane l).hold g (.looking slot))) := by
  simp only [State.beginLookup, tagged, Option.bind_some, mapped]

/-- Settles O8: a head stays, is refused, or is held by its kind and its tag. -/
theorem handoverOfADueHead : Obligations.HandoverOfADueHead := by
  unfold Obligations.HandoverOfADueHead
  intro s l
  refine ⟨fun h => ?_, ?_⟩
  · show execGrantHandover l s = _
    cases head : (s.lane l).queue with
    | nil => simp only [execGrantHandover, head]
    | cons g rest =>
      have full : 2 ≤ (s.lane l).held.length := h.resolve_left (by simp [head])
      exact execGrantHandover_stays head fun h => by omega
  · intro g rest head held
    refine ⟨fun notDue => ?_, fun room due => ?_⟩
    · refine execGrantHandover_stays head fun ⟨_, due⟩ => ?_
      exact absurd ((due_iff _ _ _).1 due) (Nat.not_lt.2 notDue)
    · have leaves := execGrantHandover_leaves head room ((due_iff _ _ _).2 due)
      have left (r : Reception) := left_hold s l g rest r
      refine ⟨fun come => ?_, fun ahead => ?_⟩
      · have started : atOrAfter s.now g.start = true := (atOrAfter_iff _ _).2 come
        rw [if_pos started] at leaves
        exact leaves
      · have notStarted : ¬ atOrAfter s.now g.start = true := by
          rw [atOrAfter_iff, Nat.not_lt]
          exact ahead
        rw [if_neg notStarted] at leaves
        refine ⟨fun kind => leaves.trans ?_, fun kind => leaves.trans ?_, fun notOpen notQuiet => ?_⟩
        · simp only [State.handOver, kind]
          rw [left]
        · simp only [State.handOver, kind]
          rw [left]
        · rw [handOver_lookup notOpen notQuiet] at leaves
          refine ⟨fun unmapped => leaves.trans ?_, fun tag slot tagged mapped => leaves.trans ?_⟩
          · rw [beginLookup_unmapped (by simpa using unmapped), left]
            rfl
          · rw [beginLookup_mapped tagged (by simpa using mapped), left]

end Sys2Proof.Machine.PlantIntake
end

section
/-! ## LANE_SET, LANE_START and LANE_STOP (R59, R62 to R65) -/

namespace Sys2Proof.Machine.PlantIntake

/-! ### The settings of R62 -/

theorem rateOf_eq (rate : Nat) :
    rateOf rate = if rate ≤ 2 then some (if rate = 0 then .low else if rate = 1 then .mid else .high) else none := by
  match rate with
  | 0 | 1 | 2 => rfl
  | n + 3 => exact (if_neg (by omega)).symm

/-- The ranges of R62. -/
def SettingsSound (rate preamble lookahead margin openWindow : Nat) (floor : Int) : Prop :=
  rate ≤ 2 ∧ (preamble = 16 ∨ preamble = 32 ∨ preamble = 64) ∧ (64 ≤ lookahead ∧ lookahead ≤ 65535) ∧
    (-320 ≤ floor ∧ floor ≤ 80) ∧ (8 ≤ margin ∧ margin ≤ 255) ∧ (256 ≤ openWindow ∧ openWindow ≤ 262143)

section
variable {rate preamble lookahead margin openWindow : Nat} {floor : Int}

theorem within_natCast (x lo hi : Nat) : within x lo hi = true ↔ lo ≤ x ∧ x ≤ hi := by
  rw [within_iff, Int.ofNat_le, Int.ofNat_le]

theorem settingsOf_sound (h : SettingsSound rate preamble lookahead margin openWindow floor) :
    settingsOf rate preamble lookahead floor margin openWindow =
      some { rate := if rate = 0 then .low else if rate = 1 then .mid else .high, preamble := preamble
             lookahead := lookahead, defaultFloor := floor, margin := margin, openWindow := openWindow } := by
  obtain ⟨low, pre, look, range, mar, win⟩ := h
  unfold settingsOf
  rw [rateOf_eq, if_pos low]
  exact if_pos ⟨pre, (within_natCast _ _ _).2 look, (within_iff _ _ _).2 range, (within_natCast _ _ _).2 mar,
    (within_natCast _ _ _).2 win⟩

theorem settingsOf_unsound (h : ¬ SettingsSound rate preamble lookahead margin openWindow floor) :
    settingsOf rate preamble lookahead floor margin openWindow = none := by
  unfold settingsOf
  rw [rateOf_eq]
  by_cases low : rate ≤ 2
  · rw [if_pos low]
    refine if_neg fun ⟨pre, look, range, mar, win⟩ => h ?_
    exact ⟨low, pre, (within_natCast _ _ _).1 look, (within_iff _ _ _).1 range, (within_natCast _ _ _).1 mar,
      (within_natCast _ _ _).1 win⟩
  · rw [if_neg low]

end

/-! ### LANE_SET and LANE_START -/

/-- LANE_SET: the first clause of O40. -/
theorem laneSet_answers {s : State} {n rate preamble lookahead margin openWindow : Nat} {floor : Int}
    (head : s.headRequest = some (.laneSet n rate preamble lookahead floor margin openWindow)) :
    (4 ≤ n ∨ ¬ SettingsSound rate preamble lookahead margin openWindow floor →
      execLaneSet s = .next (s.takeRequest.refuse .badArg)) ∧
    (∀ l : LaneId, l.val = n → SettingsSound rate preamble lookahead margin openWindow floor →
      ((s.lane l).mode ≠ .off → execLaneSet s = .next (s.takeRequest.refuse .busy)) ∧
      ((s.lane l).mode = .off → execLaneSet s = .next
        ((s.takeRequest.setLane l { s.lane l with settings :=
          { rate := if rate = 0 then .low else if rate = 1 then .mid else .high, preamble := preamble
            lookahead := lookahead, defaultFloor := floor, margin := margin, openWindow := openWindow } }).answer .ok
          .empty))) := by
  refine ⟨fun bad => ?_, fun l hl sound => ?_⟩
  · rcases bad with noLane | unsound
    · simp only [execLaneSet, head, laneOf_eq_none.2 noLane]
    · simp only [execLaneSet, head, settingsOf_unsound unsound]
      cases laneOf n <;> rfl
  · simp only [execLaneSet, head, laneOf_eq_some.2 hl, settingsOf_sound sound]
    exact ⟨fun on => congrArg _ (if_neg on), fun off => congrArg _ (if_pos off)⟩

/-- LANE_START: the second clause of O40. -/
theorem laneStart_answers {s : State} {n : Nat} (head : s.headRequest = some (.laneStart n)) :
    (4 ≤ n → execLaneStart s = .next (s.takeRequest.refuse .badArg)) ∧
    (∀ l : LaneId, l.val = n →
      ((s.lane l).mode ≠ .off → execLaneStart s = .next (s.takeRequest.refuse .busy)) ∧
      ((s.lane l).mode = .off → execLaneStart s = .next
        ((s.takeRequest.setLane l { s.lane l with mode := .run }).answer .ok .empty))) := by
  refine ⟨fun noLane => ?_, fun l hl => ?_⟩
  · simp only [execLaneStart, head, laneOf_eq_none.2 noLane]
  · simp only [execLaneStart, head, laneOf_eq_some.2 hl]
    exact ⟨fun on => congrArg _ (if_neg on), fun off => congrArg _ (if_pos off)⟩

/-! ### LANE_STOP -/

theorem flushReports_eq (l : LaneId) (reason : FlushReason) (x : Lane) :
    x.flushReports l reason = x.held.filterMap (Held.abandonReport l) ++
      (if x.queue = [] then [] else [.laneFlush { lane := l, reason := reason, count := x.queue.length }]) := by
  unfold Lane.flushReports
  cases x.queue <;> rfl

theorem execLaneStop_badArg {s : State} {n : Nat} (head : s.headRequest = some (.laneStop n)) (noLane : 4 ≤ n) :
    execLaneStop s = .next (s.takeRequest.refuse .badArg) := by
  simp only [execLaneStop, head, laneOf_eq_none.2 noLane]

theorem execLaneStop_stops {s : State} {n : Nat} {l : LaneId} (head : s.headRequest = some (.laneStop n))
    (hl : l.val = n) : execLaneStop s = .next ((s.takeRequest.stopLane l).answer .ok .empty) := by
  simp only [execLaneStop, head, laneOf_eq_some.2 hl]

/-- Settles O40: the three rows in turn. -/
theorem laneRequestsSetStartAndStop : Obligations.LaneRequestsSetStartAndStop := by
  unfold Obligations.LaneRequestsSetStartAndStop
  refine ⟨⟨fun s n rate preamble lookahead margin openWindow floor head => laneSet_answers head,
    fun s n head => laneStart_answers head⟩, fun s n head => ⟨execLaneStop_badArg head, fun l hl => ?_⟩⟩
  intro u v
  refine ⟨?_, fun k other => ?_, fun m => ?_, fun h => rfl, fun h => rfl⟩
  · refine (execLaneStop_stops head hl).trans ?_
    rw [← flushReports_eq]
    rfl
  · rw [State.withdrawReads_lane, State.lane_setLane_other _ _ other, State.takeRequest_lane]
  · rw [State.record_withdrawReads, State.setLane_record, State.takeRequest_record]

end Sys2Proof.Machine.PlantIntake
end

section
/-! ## Changes of the count (R43 to R45, R61, R128, R155) -/

namespace Sys2Proof.Machine.PlantIntake

/-! ### The tests of a change of the count -/

/-- The deadline test of an entry of the list, after a note whether its issue time lies ahead of the count (R128). -/
theorem deadlineAtCount_eq (change : CountChange) (now : Time) (e : DeadlineEntry) :
    e.atCount change now =
      { e with heldOff := holdOff change now e.issueTime e.heldOff
               expired := e.expired || (!holdOff change now e.issueTime e.heldOff &&
                 decide (e.limit ≤ (now - e.issueTime).toNat)) } := rfl

/-- The deadline test by itself marks an entry that has reached its limit, and leaves every other (R128). -/
theorem deadlineTest_eq (now : Time) (e : DeadlineEntry) :
    e.test now = if e.heldOff = false ∧ e.limit ≤ (now - e.issueTime).toNat then { e with expired := true } else e := by
  unfold DeadlineEntry.test elapsed
  split
  · next reached => simp only [reached.1, reached.2, Bool.not_false, decide_true, Bool.and_self, Bool.or_true]
  · next short =>
    have unmarked : (!e.heldOff && decide (e.limit ≤ (now - e.issueTime).toNat)) = false := by simpa using short
    simp only [unmarked, Bool.or_false]

/-- A monitor's interval test sets its mark when the interval has passed since the last start (R155). -/
theorem testInterval_eq_any (now : Time) (m : Monitor) :
    m.testInterval now =
      { m with mark := m.mark || m.latched.any fun k => decide (m.interval ≤ (now - k.lastStart).toNat) } := by
  obtain ⟨mode, interval, latched, mark, consecutive⟩ := m
  cases latched with
  | none => simp only [Monitor.testInterval, Option.any_none, Bool.or_false]
  | some k => rfl

/-- What a time is tested against, in numbers (R128, R180; log entry 17). -/
theorem holdOff_tick (now time : Time) (was : Bool) :
    holdOff .tick now time was = (was && decide (2147483648 ≤ (now - time).toNat)) := by
  rw [holdOff, before_eq]

theorem holdOff_trim (old now time : Time) (was : Bool) :
    holdOff (.trim old) now time was =
      (decide (2147483648 ≤ (now - time).toNat) && (was || decide ((old - time).toNat < 2147483648))) := by
  rw [holdOff, before_eq, atOrAfter]

/-! ### SYNC_PULSE without a slip (R45, R61) -/

theorem execSyncPulse_trim {s : State} {v : Time} (armed : s.clock.armed = some v)
    (synchronised : s.clock.synchronised = true) (low : -2 ≤ (s.clock.count - v).toInt)
    (high : (s.clock.count - v).toInt ≤ 2) (reportOrder unitOrder : List LaneId) :
    execSyncPulse reportOrder unitOrder s = .next (State.countChanged (.trim s.clock.count)
      { s with clock := { count := v, synchronised := true, armed := none } }) := by
  have near : within (signedDifference s.clock.count v) (-2) 2 = true := (within_iff _ _ _).2 ⟨low, high⟩
  simp only [execSyncPulse, armed, synchronised, near, if_true]

theorem execSyncPulse_firstLoad {s : State} {v : Time} (armed : s.clock.armed = some v)
    (first : s.clock.synchronised = false) (reportOrder unitOrder : List LaneId) :
    execSyncPulse reportOrder unitOrder s =
      .next { s with clock := { count := v, synchronised := true, armed := none } } := by
  simp only [execSyncPulse, armed, first, Bool.false_eq_true, if_false]

theorem execSyncPulse_ignored {s : State} (idle : s.clock.armed = none) (reportOrder unitOrder : List LaneId) :
    execSyncPulse reportOrder unitOrder s = .next s := by
  simp only [execSyncPulse, idle]

theorem execClockSet_answers {s : State} {v : Time} (head : s.headRequest = some (.clockSet v)) :
    execClockSet s = .next
      ({ s.takeRequest with
          clock := { count := s.clock.count, synchronised := s.clock.synchronised, armed := some v } }.answer .ok
        (.clock s.clock.count s.clock.synchronised)) := by
  simp only [execClockSet, head, State.takeRequest_clock]

/-- Settles O4: the equation of the tests, and each command by its own. -/
theorem countChangesTestDeadlinesAndIntervals : Obligations.CountChangesTestDeadlinesAndIntervals := by
  unfold Obligations.CountChangesTestDeadlinesAndIntervals
  refine ⟨?_, fun s => rfl, fun s slot => ?_, fun s l => ?_, fun s v head => execClockSet_answers head,
    fun s reportOrder unitOrder => ⟨fun idle => execSyncPulse_ignored idle _ _,
      fun v armed first => execSyncPulse_firstLoad armed first _ _,
      fun v armed synchronised low high => execSyncPulse_trim armed synchronised low high _ _⟩⟩
  · intro s change off
    have off_eq (time : Time) (was : Bool) : holdOff change s.clock.count time was = off time was := by
      cases change with
      | tick => exact holdOff_tick _ _ _
      | trim old => exact holdOff_trim _ _ _ _
      | slip => rfl
    have lane (l : Lane) : l.atCount s.clock.count = { l with monitor := { l.monitor with
        mark := l.monitor.mark || l.monitor.latched.any fun k =>
          decide (l.monitor.interval ≤ (s.clock.count - k.lastStart).toNat) } } := by
      rw [Lane.atCount, testInterval_eq_any]
    unfold State.countChanged State.now
    clear_value off
    congr 1
    · refine congrArg (Vector.map · s.lanes) (funext fun l => ?_)
      rw [lane]
      cases l.monitor.latched <;> rfl
    · unfold postAtCount DeadlineChange.atCount
      cases s.update with
      | posting work post => cases h : post.deadline <;> simp [h, off_eq]
      | _ => rfl
    · refine congrArg (List.map · s.deadlines) (funext fun e => ?_)
      rw [deadlineAtCount_eq, off_eq]
    · unfold SweepEngine.atCount
      simp only [off_eq]
  · show Host.Outcome.next _ = _
    congr 3
    funext e
    rw [deadlineTest_eq]
    by_cases at_ : e.slot = slot
    · simp only [at_, true_and, if_true, State.now]
    · simp only [at_, false_and, if_false]
  · show Host.Outcome.next (s.setLane l ((s.lane l).atCount s.clock.count)) = _
    rw [Lane.atCount, testInterval_eq_any]
    cases latched : (s.lane l).monitor.latched with
    | none => simp only [latched, Option.any_none, Bool.or_false]
    | some k => simp only [latched, Option.any_some]

end Sys2Proof.Machine.PlantIntake
end

section
/-! ## QUIET_START, QUIET_GRANT_DONE and SYMBOL_UNIT_EMITTED (R54, R81, R154) -/

namespace Sys2Proof.Machine.PlantIntake

/-- The change falls on the first held grant that the test picks. -/
theorem changeFirst_append {p : Held → Bool} {f : Held → Held} {before after : List Held} {h : Held}
    (unpicked : ∀ x ∈ before, p x = false) (picked : p h = true) :
    changeFirst p f (before ++ h :: after) = some (before ++ f h :: after) := by
  induction before with
  | nil => simp only [List.nil_append, changeFirst, picked, if_true]
  | cons x rest ih =>
    have skipped := unpicked x (by simp)
    have tail := ih fun y hy => unpicked y (by simp [hy])
    simp only [List.cons_append, changeFirst, skipped, Bool.false_eq_true, if_false, tail, Option.map_some]

theorem quietDue_iff (now : Time) (h : Held) :
    h.quietDue now = true ↔ h.reception = .quietWaiting ∧ (now - h.grant.start).toNat < 2147483648 := by
  simp only [Held.quietDue, Bool.and_eq_true, decide_eq_true_eq, atOrAfter_iff]

/-- The decision of R154. -/
theorem measures_iff (m : Monitor) :
    m.measures = true ↔ m.mode = .every ∨ (m.mode = .periodic ∧ (m.latched = none ∨ m.mark = true)) := by
  unfold Monitor.measures
  cases m.mode <;> simp

/-- QUIET_START decides the first held grant that is due. -/
theorem execQuietStart_decides {s : State} {l : LaneId} {before after : List Held} {h : Held}
    (held : (s.lane l).held = before ++ h :: after) (unpicked : ∀ x ∈ before, x.quietDue s.now = false)
    (picked : h.quietDue s.now = true) :
    execQuietStart l s = .next (s.setLane l { s.lane l with
      held := before ++ { h with reception :=
        if (s.lane l).monitor.measures then .quietMeasuring else .quietPassed } :: after }) := by
  simp only [execQuietStart, held, changeFirst_append unpicked picked]

/-- The grant being received is done when it is of the reception asked for and its end has come. -/
theorem headEnded_eq_some {now : Time} {r : Reception} {l : Lane} {h : Held} {rest : List Held} (held : l.held = h :: rest)
    (reception : h.reception = r) (ended : atOrAfter now (l.endOf h.grant) = true) :
    l.headEnded now r = some h.grant := by
  simp only [Lane.headEnded, held, reception, ended, and_self, if_true]

/-- Settles O11: the decision of the first due QUIET grant, the end of one passed over, and the port's next unit. -/
theorem quietGrantsAndSymbolUnitsComplete : Obligations.QuietGrantsAndSymbolUnitsComplete := by
  unfold Obligations.QuietGrantsAndSymbolUnitsComplete
  refine ⟨⟨fun s l before after h held earlier waiting started => ?_, fun s l h rest held passed ended => ?_⟩,
    fun s => ⟨fun idle => ?_, fun u rest busy => ?_⟩⟩
  · have unpicked : ∀ x ∈ before, x.quietDue s.now = false := fun x hx => by
      rw [Bool.eq_false_iff, Ne, quietDue_iff]
      exact earlier x hx
    have decides := execQuietStart_decides held unpicked ((quietDue_iff _ _).2 ⟨waiting, started⟩)
    simp only [measures_iff] at decides
    exact decides
  · have done := headEnded_eq_some held passed ((atOrAfter_iff s.now _).2 ended)
    show execQuietGrantDone l s = _
    simp only [execQuietGrantDone, done, held, List.tail_cons]
  · show Host.Outcome.next { s with port := s.port.tail } = _
    rw [idle, List.tail_nil, ← idle]
  · show Host.Outcome.next { s with port := s.port.tail } = _
    rw [busy, List.tail_cons]

end Sys2Proof.Machine.PlantIntake
end

section
/-! ## The smoothing of the taps (R98, R99) -/

namespace Sys2Proof.Machine.AlignmentLaws

/-- Rounding halves away from zero is odd, so a negative dividend is the mirror image of a positive one. -/
theorem roundShift_neg (x : Int) (m : Nat) : roundShift (-x) m = -roundShift x m := by
  rcases Int.lt_trichotomy x 0 with negative | rfl | positive
  · simp only [roundShift, if_pos (show 0 ≤ -x by omega), if_neg (show ¬ 0 ≤ x by omega), Int.neg_neg]
  · have still : roundShift 0 m = 0 := by
      have := roundShift_bounds 0 m
      omega
    rw [Int.neg_zero, still, Int.neg_zero]
  · simp only [roundShift, if_neg (show ¬ 0 ≤ -x by omega), if_pos (show 0 ≤ x by omega), Int.neg_neg]

/-- Twice the rounding error of a dividend that is not negative: above −2^m, and at most 2^m (the half rounded up). -/
theorem roundShift_error_of_nonneg {x : Int} (h : 0 ≤ x) (m : Nat) :
    2 * ((2 ^ m : Nat) * roundShift x m - x) ≤ (2 ^ m : Nat) ∧
      -((2 ^ m : Nat) : Int) < 2 * ((2 ^ m : Nat) * roundShift x m - x) := by
  have unit : (0 : Int) < 2 * (2 ^ m : Nat) := by
    have := Nat.two_pow_pos m
    omega
  rw [roundShift, if_pos h]
  have below := Int.mul_ediv_self_le (x := 2 * x + (2 ^ m : Nat)) (Int.ne_of_gt unit)
  have above := Int.lt_mul_ediv_self_add (x := 2 * x + (2 ^ m : Nat)) unit
  rw [Int.mul_assoc] at below above
  omega

/-- The rounded quotient is a nearest one, and of two equally near the one farther from zero (R1). -/
theorem roundShift_nearest (x : Int) (m : Nat) :
    2 * ((2 ^ m : Nat) * roundShift x m - x).natAbs ≤ 2 ^ m ∧
      (2 * ((2 ^ m : Nat) * roundShift x m - x).natAbs = 2 ^ m →
        x.natAbs < ((2 ^ m : Nat) * roundShift x m).natAbs) := by
  rcases Int.le_total 0 x with h | h
  · have := roundShift_error_of_nonneg h m
    omega
  · have mirrored := roundShift_error_of_nonneg (show 0 ≤ -x by omega) m
    rw [roundShift_neg, Int.mul_neg] at mirrored
    omega

/-- A smoothed component lies between the old and the trained one (R98). -/
theorem smooth_between (m : Nat) (w c : Int) : min w c ≤ smooth m w c ∧ smooth m w c ≤ max w c := by
  have := roundShift_bounds (c - w) m
  unfold smooth
  omega

/-- An operation that stays between its two components keeps the range of every tap. -/
theorem tapsInRange_zip {f : Int → Int → Int} {w c : TapSet}
    (between : ∀ a b, min a b ≤ f a b ∧ f a b ≤ max a b) (hw : Safety.tapsInRange w) (hc : Safety.tapsInRange c) :
    Safety.tapsInRange (w.zip f c) := by
  have tap (a b : Tap) (ha : (-32768 ≤ a.re ∧ a.re ≤ 32767) ∧ (-32768 ≤ a.im ∧ a.im ≤ 32767))
      (hb : (-32768 ≤ b.re ∧ b.re ≤ 32767) ∧ (-32768 ≤ b.im ∧ b.im ≤ 32767)) :
      (-32768 ≤ (a.zip f b).re ∧ (a.zip f b).re ≤ 32767) ∧ (-32768 ≤ (a.zip f b).im ∧ (a.zip f b).im ≤ 32767) := by
    have re := between a.re b.re
    have im := between a.im b.im
    simp only [Tap.zip]
    omega
  simp only [Safety.tapsInRange, TapSet.toList, TapSet.zip, List.forall_mem_cons] at hw hc ⊢
  obtain ⟨w0, w1, w2, w3, w4, w5, w6, w7, -⟩ := hw
  obtain ⟨c0, c1, c2, c3, c4, c5, c6, c7, -⟩ := hc
  exact ⟨tap _ _ w0 c0, tap _ _ w1 c1, tap _ _ w2 c2, tap _ _ w3 c3, tap _ _ w4 c4, tap _ _ w5 c5, tap _ _ w6 c6,
    tap _ _ w7 c7, by simp⟩

/-- Settles O21: the bounds and the nearness of the rounded quotient, and the range tap by tap. -/
theorem smoothedTapsStayBetween : Obligations.SmoothedTapsStayBetween := by
  unfold Obligations.SmoothedTapsStayBetween
  refine ⟨fun m w c => ?_, fun m w c => tapsInRange_zip (smooth_between m)⟩
  obtain ⟨above, below⟩ := smooth_between m w c
  obtain ⟨rising, falling⟩ := roundShift_bounds (c - w) m
  obtain ⟨nearest, tie⟩ := roundShift_nearest (c - w) m
  exact ⟨above, below, rising, falling, nearest, tie⟩

end Sys2Proof.Machine.AlignmentLaws
end

section
/-! ## The tap ratio (R100) -/

namespace Sys2Proof.Machine.AlignmentLaws

theorem tapEnergy_cast (a : Tap) : (tapEnergy a : Int) = a.re ^ 2 + a.im ^ 2 := by
  have sq_nonneg (x : Int) : 0 ≤ x * x := Int.natAbs_mul_self ▸ Int.natCast_nonneg _
  have sq_eq (x : Int) : x ^ 2 = x * x := by
    rw [Int.pow_succ, Int.pow_succ, Int.pow_zero, Int.one_mul]
  rw [tapEnergy, Int.toNat_of_nonneg (Int.add_nonneg (sq_nonneg a.re) (sq_nonneg a.im)), sq_eq, sq_eq]

theorem component_energy_le {x : Int} (h : -32768 ≤ x ∧ x ≤ 32767) : x * x ≤ 1073741824 := by
  have size : x.natAbs ≤ 32768 := by omega
  have square : x.natAbs * x.natAbs ≤ 32768 * 32768 := Nat.mul_le_mul size size
  rw [← Int.natAbs_mul_self]
  omega

/-- A tap at the low ends of the range has the greatest energy, 2 · 32768^2. -/
theorem tapEnergy_le {a : Tap} (h : (-32768 ≤ a.re ∧ a.re ≤ 32767) ∧ (-32768 ≤ a.im ∧ a.im ≤ 32767)) :
    tapEnergy a ≤ 2147483648 := by
  obtain ⟨re, im⟩ := h
  have re_energy := component_energy_le re
  have im_energy := component_energy_le im
  unfold tapEnergy
  omega

theorem tapRatio_le (t : TapSet) : tapRatio t ≤ 1023 := by
  unfold tapRatio
  split <;> omega

/-- From equal energies upward the ratio is cut off at 1023, the main energy of 0 included. -/
theorem tapRatio_saturated {t : TapSet} (h : mainEnergy t ≤ offMainEnergy t) : tapRatio t = 1023 := by
  unfold tapRatio
  split
  · rfl
  · next main =>
    have full : 1024 ≤ 1024 * offMainEnergy t / mainEnergy t :=
      (Nat.le_div_iff_mul_le (Nat.pos_of_ne_zero main)).2 (Nat.mul_le_mul_left 1024 h)
    omega

/-- Seven taps, each of at most the greatest energy. -/
theorem offMainEnergy_le {t : TapSet} (h : Safety.tapsInRange t) : offMainEnergy t ≤ 15032385536 := by
  have tap (a : Tap) (ha : a ∈ t.toList) : tapEnergy a ≤ 2147483648 := tapEnergy_le (h a ha)
  simp only [TapSet.toList, List.forall_mem_cons] at tap
  unfold offMainEnergy
  omega

/-- Settles O23: the energies as integers are the model's, and the ratio is a bounded quotient of them. -/
theorem tapRatioSaturates : Obligations.TapRatioSaturates := by
  unfold Obligations.TapRatioSaturates
  intro t energy off main
  have off_eq : off = (offMainEnergy t : Int) := by
    simp only [off, energy, offMainEnergy, Int.natCast_add, tapEnergy_cast]
  have main_eq : main = (mainEnergy t : Int) := (tapEnergy_cast t.t2).symm
  rw [off_eq, main_eq]
  refine ⟨fun silent => if_pos (by omega), fun heard => ?_, tapRatio_le t, fun heavy => tapRatio_saturated (by omega),
    by decide, fun inRange => ?_⟩
  · have quotient : ((1024 * offMainEnergy t / mainEnergy t : Nat) : Int) =
        1024 * (offMainEnergy t : Int) / mainEnergy t := by
      rw [Int.natCast_ediv, Int.natCast_mul]
      rfl
    rw [tapRatio, if_neg (by omega)]
    omega
  · have := offMainEnergy_le inRange
    omega

end Sys2Proof.Machine.AlignmentLaws
end

section
/-! ## UPDATE_PROCESS of a STALE and of a MISSED result (R88, R89, R105, R107) -/

namespace Sys2Proof.Machine.AlignmentLaws

theorem stale_iff (r : BurstResult) (image : Record) :
    r.stale image = true ↔ image.state = .free ∨ r.generation ≠ some image.generation := by
  simp only [BurstResult.stale, Bool.or_eq_true, decide_eq_true_eq]

theorem fresh_of_generation {r : BurstResult} {image : Record} (live : image.state ≠ .free)
    (same : r.generation = some image.generation) : r.stale image = false := by
  rw [Bool.eq_false_iff, Ne, stale_iff]
  exact fun stale => stale.elim live fun other => other same

section
variable {s : State} {slot : Nat} {r : BurstResult} {image : Record}

theorem execUpdateProcess_stale (ready : s.update = .ready slot r image) (stale : r.stale image = true) :
    execUpdateProcess s = .next (State.offer (.burst (r.report .stale)) { s with update := .idle }) := by
  simp only [execUpdateProcess, ready, stale, if_true]

theorem execUpdateProcess_clean {m : Measurement} {trained : TapSet} (ready : s.update = .ready slot r image)
    (fresh : r.stale image = false) (measured : r.measured = some m) (trains : r.trained = some trained) :
    execUpdateProcess s = .next (s.processClean slot r image m trained) := by
  simp only [execUpdateProcess, ready, fresh, measured, trains, Bool.false_eq_true, if_false]

/-- A result without measurement or trained set runs no arithmetic (R89). -/
theorem execUpdateProcess_unmeasured (ready : s.update = .ready slot r image) (fresh : r.stale image = false)
    (unmeasured : r.measured = none ∨ r.trained = none) :
    execUpdateProcess s = .next (s.processMissed slot r image) := by
  rcases unmeasured with none_ | none_
  · simp only [execUpdateProcess, ready, fresh, none_, Bool.false_eq_true, if_false]
  · cases measured : r.measured <;>
      simp only [execUpdateProcess, ready, fresh, none_, measured, Bool.false_eq_true, if_false]

end

/-- When a processed station burst produces a BURST report (R107). -/
theorem burstReported_iff (r : BurstResult) (issued : Bool) (reason : Option StateReason) :
    burstReported r issued reason = true ↔ r.kind ≠ .data ∨ r.outcome ≠ .clean ∨ issued = true ∨ reason ≠ none := by
  unfold burstReported
  cases r.kind <;> simp [Option.isSome_iff_ne_none, or_assoc]

theorem classify_issued {x : Correction} (issued : x.state = .issued) (start : Time) (settle : Nat) :
    classify (some x) start settle = .pre := by
  simp only [classify, issued]

/-- A delivered correction leaves a burst pre-correction until its delivery time plus the settle time (R133). -/
theorem classify_delivered {x : Correction} {d : Time} (delivered : x.state = .delivered d) (start : Time)
    (settle : Nat) :
    classify (some x) start settle =
      if 2147483648 ≤ (start - (d + BitVec.ofNat 32 settle)).toNat then .pre else .post := by
  simp only [classify, delivered, before_iff, later]

/-- The last part of a processing is the BURST report, the change of state, and the post of the image with the gap flag
that they leave (R105). -/
theorem finishResult_eq {slot : Nat} {r : BurstResult} {old : StationState} {image : Record} {c : Counted}
    {deadline : DeadlineChange} {report : BurstReport} {issued : Bool} {sg told moved : State × GapTrack}
    (tells : State.offerIf (burstReported r issued c.reason) (fun gap => .burst { report with gap := gap }) sg = told)
    (moves : State.offerChange slot old c told = moved) :
    State.finishResult slot r old image c deadline report issued sg =
      State.updatePosts r
        { slot := slot, image := { image.counted c with gap := moved.2.flag }, deadline := deadline, released := none
          taken := none } moved.1 := by
  subst tells moves
  rfl

/-- Settles O19: the equations of the two branches of UPDATE_PROCESS without arithmetic. -/
theorem staleAndMissedResults : Obligations.StaleAndMissedResults := by
  unfold Obligations.StaleAndMissedResults
  refine ⟨fun s slot r image ready stale => ?_, fun s slot r image ready live same missed unmeasured => ?_⟩
  · refine ⟨_, execUpdateProcess_stale ready ((stale_iff r image).2 stale), rfl, ?_⟩
    simp [State.record, State.bank]
  · intro p c pre told moved
    have pre_eq : decide (classify image.pending r.start p.settle = .pre) = pre := by
      simp only [pre]
      cases pending : image.pending with
      | none => rfl
      | some x =>
        cases state : x.state with
        | issued => simp only [classify_issued state, state, decide_true]
        | delivered d =>
          simp only [classify_delivered state, state, ite_eq_left_iff, reduceCtorEq, imp_false, Classical.not_not]
    have reported : burstReported r false c.reason = true :=
      (burstReported_iff _ _ _).2 (.inr (.inl (by simp [missed])))
    show execUpdateProcess s = _
    rw [execUpdateProcess_unmeasured ready (fresh_of_generation live same) (.inl unmeasured)]
    refine congrArg Host.Outcome.next (finishResult_eq (told := told) (moved := moved) ?_ rfl)
    show State.offerIf (burstReported r false c.reason) _ _ = told
    rw [pre_eq, reported, missed]
    simp only [State.offerIf, if_true, BurstResult.report, unmeasured, Option.map_none]
    rfl

end Sys2Proof.Machine.AlignmentLaws
end

section
/-! ## UPDATE_PROCESS of a CLEAN result (R90 to R107) -/

namespace Sys2Proof.Machine.AlignmentLaws

/-- Only the outgoing side has changed: the report queue, the frame being sent and the alert unit. -/
def ReportsOnly (s t : State) : Prop := t = { s with reports := t.reports, sending := t.sending, alert := t.alert }

namespace ReportsOnly

theorem refl (s : State) : ReportsOnly s s := rfl

theorem trans {s t u : State} (first : ReportsOnly s t) (next : ReportsOnly t u) : ReportsOnly s u := by
  unfold ReportsOnly at *
  rw [next, first]

theorem raise (cause : Cause) (s : State) : ReportsOnly s (s.raise cause) := rfl

theorem offer (report : Report) (s : State) : ReportsOnly s (s.offer report) := by
  unfold ReportsOnly State.offer
  split
  · rw [State.startSending_eq]
  · rfl

theorem offerHeld (make : Bool → Report) (sg : State × GapTrack) : ReportsOnly sg.1 (State.offerHeld make sg).1 := by
  obtain ⟨gap, offered⟩ := State.offerHeld_fst make sg
  rw [offered]
  exact offer _ _

theorem offerIf (called : Bool) (make : Bool → Report) (sg : State × GapTrack) :
    ReportsOnly sg.1 (State.offerIf called make sg).1 := by
  unfold State.offerIf
  split
  · exact offerHeld _ _
  · exact refl _

theorem offerAbsorbed (slot : Nat) (image : Record) (cls : BurstClass) (start : Time) (sg : State × GapTrack) :
    ReportsOnly sg.1 (State.offerAbsorbed slot image cls start sg).1 := by
  unfold State.offerAbsorbed
  split
  · exact offerHeld _ _
  · exact refl _

theorem offerChange (slot : Nat) (old : StationState) (c : Counted) (sg : State × GapTrack) :
    ReportsOnly sg.1 (State.offerChange slot old c sg).1 := by
  unfold State.offerChange
  split
  · exact refl _
  · refine trans ?_ (offerHeld _ _)
    dsimp only
    split
    · exact raise _ _
    · exact refl _

theorem record {s t : State} (h : ReportsOnly s t) (slot : Nat) : t.record slot = s.record slot := by
  rw [show t = _ from h]
  rfl

theorem deadlines {s t : State} (h : ReportsOnly s t) : t.deadlines = s.deadlines := by rw [show t = _ from h]

theorem now {s t : State} (h : ReportsOnly s t) : t.now = s.now := by
  rw [show t = _ from h]
  rfl

end ReportsOnly

/-- The issue of R103: with room the report enters and the correction is made; without, the correction is dropped and
the gap flag set; uncalled, nothing happens. -/
theorem offerCorrection_eq (slot : Nat) (image : Record) (w : Worked) (called : Bool) (sg : State × GapTrack) :
    State.offerCorrection slot image w called sg =
      let correction := correctionOf sg.1.now image w
      let issued := called = true ∧ sg.1.reports.length < 64
      (if issued then State.offerHeld (correctionReport slot image correction) sg
        else if called = true then (sg.1.raise .reportDropped, { sg.2 with flag := true }) else sg,
        if issued then some correction else none) := by
  cases called with
  | false => simp [State.offerCorrection]
  | true => by_cases room : sg.1.reports.length < 64 <;> simp [State.offerCorrection, State.reportRoom_iff, room]

/-- The quality level of R92. -/
theorem qualityOf_eq (mer : Int) : (qualityOf mer : Int) = max 0 (min 15 ((mer - 40) / 8)) := by
  rw [qualityOf, clamp_eq _ (by decide), floorDiv]
  omega

/-- Each field of the arithmetic under the condition of R91 for its step. -/
theorem work_eq (p : Profile) (image : Record) (cls : BurstClass) (m : Measurement) (trained : TapSet) :
    work p image cls m trained =
      let taps := smoothTaps p.smoothing (smoothingStart image cls) trained
      let live := image.state = .acquire ∨ image.state = .track
      { quality := qualityOf m.mer
        timing := if live ∧ cls ≠ .pre then timingStep p image m.error else Step.skipped image.timing
        power := if live then powerStep p image m.power else Step.skipped image.power
        freq := if live then freqStep p image m.freq else Step.skipped image.freq
        taps := taps
        sendTaps := decide (image.state = .track ∧ cls ≠ .pre ∧ p.tapThreshold ≤ tapRatio taps) } := by
  unfold work
  cases state : image.state with
  | free | lost => simp
  | acquire | track => by_cases pre : cls = .pre <;> simp [pre]

/-- The decision of R102 and R104. -/
theorem callsForCorrection_iff (image : Record) (cls : BurstClass) (storm : Bool) (w : Worked) :
    callsForCorrection image cls storm w = true ↔
      cls ≠ .pre ∧ (image.state = .acquire ∨ image.state = .track) ∧ storm = false ∧
        (w.timing.delta ≠ 0 ∨ w.power.delta ≠ 0 ∨ w.freq.delta ≠ 0 ∨ w.sendTaps = true) := by
  simp only [callsForCorrection, Bool.and_eq_true, Bool.or_eq_true, decide_eq_true_eq, Bool.not_eq_true', and_assoc,
    or_assoc]

section
variable {image : Record} (cls : BurstClass)

theorem smoothingStart_settled (settled : image.pending = none) : smoothingStart image cls = image.taps := by
  cases cls <;> simp only [smoothingStart, settled]

theorem smoothingStart_pending {x : Correction} (pending : image.pending = some x) :
    smoothingStart image cls = if cls = .post ∧ x.taps ≠ none then identityTaps else image.taps := by
  cases cls <;> simp [smoothingStart, pending, Option.isSome_iff_ne_none]

theorem offerAbsorbed_settled (settled : image.pending = none) (slot : Nat) (start : Time) (sg : State × GapTrack) :
    State.offerAbsorbed slot image cls start sg = sg := by
  cases cls <;> simp only [State.offerAbsorbed, settled]

theorem offerAbsorbed_pending {x : Correction} (pending : image.pending = some x) (slot : Nat) (start : Time)
    (sg : State × GapTrack) :
    State.offerAbsorbed slot image cls start sg =
      if cls = .post then State.offerHeld (absorbedReport slot image x start) sg else sg := by
  cases cls <;> simp [State.offerAbsorbed, pending]

end

/-- Settles O20: classification, arithmetic, absorption and issue are each tied to the statement's own value, and the
last part of the processing reports and posts them. -/
theorem cleanResultRefinesTheRecord : Obligations.CleanResultRefinesTheRecord := by
  unfold Obligations.CleanResultRefinesTheRecord
  refine ⟨qualityOf_eq, fun s slot r image m trained ready present same clean measured trains => ?_⟩
  intro p cls from_ taps live timing power freq sendTaps storm calls absorbed issued correction issue c told moved
  have cls_eq : classify image.pending r.start p.settle = cls := by
    simp only [cls]
    cases pending : image.pending with
    | none => rfl
    | some x =>
      cases state : x.state with
      | issued => simp only [classify_issued state, state]
      | delivered d => simp only [classify_delivered state, state]
  have from_eq : smoothingStart image cls = from_ := by
    cases pending : image.pending with
    | none => simp only [smoothingStart_settled cls pending, from_, pending]
    | some x => simp only [smoothingStart_pending cls pending, from_, pending]
  have work_is : work p image cls m trained =
      { quality := qualityOf m.mer, timing := timing, power := power, freq := freq, taps := taps
        sendTaps := decide sendTaps } := by
    rw [work_eq, from_eq]
    rfl
  have absorbed_eq : State.offerAbsorbed slot image cls r.start (s, GapTrack.start image) = absorbed := by
    cases pending : image.pending with
    | none =>
      simp only [offerAbsorbed_settled cls pending, absorbed, pending]
      rfl
    | some x =>
      simp only [offerAbsorbed_pending cls pending, absorbed, pending]
      rfl
  have calls_iff : callsForCorrection image cls (s.stormy r.lane) (work p image cls m trained) = true ↔ calls := by
    rw [callsForCorrection_iff, work_is]
    simp only [State.stormy, decide_eq_false_iff_not, decide_eq_true_eq, calls, live, storm]
  have correction_eq : correctionOf absorbed.1.now image (work p image cls m trained) = correction := by
    have now : absorbed.1.now = s.clock.count := by
      rw [← absorbed_eq]
      exact (ReportsOnly.offerAbsorbed ..).now
    simp only [correctionOf, work_is, now, decide_eq_true_eq, correction]
  have issue_eq : State.offerCorrection slot image (work p image cls m trained)
      (callsForCorrection image cls (s.stormy r.lane) (work p image cls m trained)) absorbed =
        (issue, if issued then some correction else none) := by
    rw [offerCorrection_eq, correction_eq]
    simp only [calls_iff]
    rfl
  have told_eq (b : Bool) (b_iff : b = true ↔ issued) : State.offerIf (burstReported r b c.reason) (fun gap => .burst
      { lane := r.lane, start := r.start, kind := r.kind, tag := r.tag, slot := r.slot, generation := r.generation
        outcome := r.outcome, measured := r.measured, quality := r.measured.map fun m => qualityOf m.mer
        timingLimit := timing.limit, powerLimit := power.limit, clipped := r.clipped
        pre := decide (cls = BurstClass.pre), gap := gap }) issue = told := by
    have called_iff : burstReported r b c.reason = true ↔ r.kind ≠ .data ∨ issued ∨ c.reason ≠ none := by
      simp [burstReported_iff, clean, b_iff]
    simp only [State.offerIf, called_iff, clean, measured, Option.map_some, told]
  show execUpdateProcess s = _
  rw [execUpdateProcess_clean ready (fresh_of_generation present same) measured trains]
  refine congrArg Host.Outcome.next ?_
  rw [State.processClean]
  dsimp only
  rw [cls_eq, absorbed_eq, issue_eq, work_is]
  by_cases out : issued
  · simp only [if_pos out]
    exact finishResult_eq (told_eq true (iff_of_true rfl out)) rfl
  · simp only [if_neg out]
    exact finishResult_eq (told_eq false (iff_of_false Bool.false_ne_true out)) rfl

end Sys2Proof.Machine.AlignmentLaws
end

section
/-! ## UPDATE_PROCESS in STORM (R104, R115) -/

namespace Sys2Proof.Machine.AlignmentLaws

/-- A post that keeps the deadline list either enters its image or waits, and is then the waiting one. -/
theorem updatePosts_keep {p : Post} (keep : p.deadline = .keep) (r : BurstResult) (s : State) :
    ((s.updatePosts r p).record p.slot = p.image ∨ (s.updatePosts r p).record p.slot = s.record p.slot) ∧
      (∀ q p', (s.updatePosts r p).update = .posting q p' → p' = p) ∧ (s.updatePosts r p).deadlines = s.deadlines := by
  rcases State.updatePosts_cases r p s with ⟨-, posts⟩ | ⟨-, waits⟩
  · rw [posts]
    refine ⟨.inl ?_, fun q p' posting => ?_, ?_⟩
    · rw [State.applyPost_record, if_pos rfl]
    · rw [State.applyPost_update] at posting
      cases posting
    · rw [State.applyPost_deadlines, keep]
      rfl
  · rw [waits]
    refine ⟨.inr rfl, fun q p' posting => ?_, rfl⟩
    cases posting
    rfl

/-- From s to t a property holds of the slot's record and of an image that waits to be posted, and the deadline list is
kept. -/
def SlotKeeps (K : Record → Prop) (slot : Nat) (s t : State) : Prop :=
  K (t.record slot) ∧ (∀ q p, t.update = .posting q p → p.slot = slot ∧ K p.image ∧ p.deadline = .keep) ∧
  t.deadlines = s.deadlines

/-- The last part of a processing without an issue keeps what holds of the record before and of the image it posts. -/
theorem SlotKeeps.finishResult {K : Record → Prop} {slot : Nat} {s : State} {sg : State × GapTrack} {image : Record}
    {c : Counted} (told : ReportsOnly s sg.1) (before : K (s.record slot))
    (posted : ∀ gap, K { image.counted c with gap := gap }) (r : BurstResult) (old : StationState)
    (report : BurstReport) (issued : Bool) :
    SlotKeeps K slot s (State.finishResult slot r old image c .keep report issued sg) := by
  have all_told := (told.trans (.offerIf (burstReported r issued c.reason)
    (fun gap => .burst { report with gap := gap }) sg)).trans (.offerChange slot old c _)
  rw [finishResult_eq rfl rfl]
  generalize State.offerChange slot old c _ = moved at all_told
  obtain ⟨record, posting, deadlines⟩ := updatePosts_keep (p :=
    { slot := slot, image := { image.counted c with gap := moved.2.flag }, deadline := .keep, released := none
      taken := none }) rfl r moved.1
  refine ⟨?_, fun q p waits => ?_, deadlines.trans all_told.deadlines⟩
  · rcases record with new | old
    · rw [new]
      exact posted _
    · rw [old, all_told.record]
      exact before
  · rw [posting q p waits]
    exact ⟨rfl, posted _, rfl⟩

theorem countAcquire_missCount_le (p : Profile) (r : Record) (storm : Bool) (measured : Option Measurement) :
    (countAcquire p r storm measured).missCount ≤ r.missCount := by
  unfold countAcquire
  split
  · exact Nat.le_refl _
  · dsimp only
    split
    · exact Nat.zero_le _
    · exact Nat.le_refl _
    · exact Nat.le_refl _

theorem countTrack_storm (p : Profile) (r : Record) (quality : Option Nat) :
    (countTrack p r true quality).missCount ≤ r.missCount ∧ (countTrack p r true quality).state = r.state := by
  unfold countTrack
  split
  · exact ⟨Nat.le_refl _, rfl⟩
  · exact ⟨Nat.zero_le _, rfl⟩

theorem countLost_missCount_le (p : Profile) (r : Record) (quality : Option Nat) :
    (countLost p r quality).missCount ≤ r.missCount := by
  unfold countLost
  split
  · exact Nat.le_refl _
  · split
    · exact Nat.zero_le _
    · exact Nat.le_refl _

/-- In STORM a counting raises no miss count and a station in TRACK stays there (R115). -/
theorem count_storm (p : Profile) (r : Record) (measured : Option Measurement) :
    (count p r true measured).missCount ≤ r.missCount ∧
      (r.state = .track → (count p r true measured).state = .track) := by
  unfold count
  cases state : r.state with
  | acquire => exact ⟨countAcquire_missCount_le .., nofun⟩
  | track =>
    obtain ⟨misses, same⟩ := countTrack_storm p r (measured.map fun m => qualityOf m.mer)
    exact ⟨misses, fun _ => same.trans state⟩
  | lost => exact ⟨countLost_missCount_le .., nofun⟩
  | free => exact ⟨Nat.le_refl _, nofun⟩

/-- What R104 and R115 leave of a record whose lane is in STORM: adjusts, next epoch, the pending correction but for an
absorption, the miss count but for a reset, and TRACK. -/
def StormKept (image x : Record) : Prop :=
  x.timing = image.timing ∧ x.power = image.power ∧ x.freq = image.freq ∧ x.nextEpoch = image.nextEpoch ∧
  (x.pending = image.pending ∨ x.pending = none) ∧ x.missCount ≤ image.missCount ∧
  (image.state = .track → x.state = .track)

theorem StormKept.refl (image : Record) : StormKept image image := ⟨rfl, rfl, rfl, rfl, .inl rfl, Nat.le_refl _, id⟩

theorem StormKept.counted {image x : Record} (kept : StormKept image x) (p : Profile)
    (measured : Option Measurement) (gap : Bool) :
    StormKept image { x.counted (count p image true measured) with gap := gap } := by
  obtain ⟨timing, power, freq, epoch, pending, -, -⟩ := kept
  obtain ⟨misses, tracks⟩ := count_storm p image measured
  exact ⟨timing, power, freq, epoch, pending, misses, tracks⟩

theorem StormKept.measured (image : Record) (cls : BurstClass) (w : Worked) (m : Measurement) (start : Time) :
    StormKept image (image.measured cls w m start) := by
  refine ⟨rfl, rfl, rfl, rfl, ?_, Nat.le_refl _, id⟩
  by_cases absorbs : cls = .post
  · exact .inr (if_pos absorbs)
  · exact .inl (if_neg absorbs)

/-- A STALE result changes no record, so it keeps the slot's (R88). -/
theorem staleOffer_storm {s : State} (slot : Nat) (report : Report) :
    SlotKeeps (StormKept (s.record slot)) slot s (State.offer report { s with update := .idle }) := by
  have offered := ReportsOnly.offer report { s with update := .idle }
  refine ⟨?_, fun q p waits => ?_, offered.deadlines⟩
  · rw [offered.record]
    exact .refl _
  · rw [State.offer_update] at waits
    cases waits

theorem processMissed_storm {s : State} {r : BurstResult} (storm : s.stormy r.lane = true) (slot : Nat) :
    SlotKeeps (StormKept (s.record slot)) slot s (s.processMissed slot r (s.record slot)) := by
  rw [State.processMissed]
  dsimp only
  rw [storm]
  exact .finishResult (.refl s) (.refl _) (StormKept.counted (.refl _) _ _) _ _ _ _

/-- In STORM no correction is called for, so the image is the measured record, counted (R104). -/
theorem processClean_storm {s : State} {r : BurstResult} (storm : s.stormy r.lane = true) (slot : Nat)
    (m : Measurement) (trained : TapSet) :
    SlotKeeps (StormKept (s.record slot)) slot s (s.processClean slot r (s.record slot) m trained) := by
  have uncalled (image : Record) (cls : BurstClass) (w : Worked) : callsForCorrection image cls true w = false := by
    rw [Bool.eq_false_iff, Ne, callsForCorrection_iff]
    rintro ⟨-, -, storm, -⟩
    cases storm
  rw [State.processClean]
  dsimp only
  simp only [storm, uncalled, offerCorrection_eq, Bool.false_eq_true, false_and, if_false]
  exact .finishResult (.offerAbsorbed ..) (.refl _) (StormKept.counted (.measured ..) _ _) _ _ _ _

/-- Settles O60: each of the three ways of UPDATE_PROCESS keeps the slot in STORM. -/
theorem stormWithholdsCorrectionsAndMisses : Obligations.StormWithholdsCorrectionsAndMisses := by
  unfold Obligations.StormWithholdsCorrectionsAndMisses
  intro s t slot r image ready current storm answer
  subst current
  have stormy : s.stormy r.lane = true := decide_eq_true storm
  suffices SlotKeeps (StormKept (s.record slot)) slot s t from this
  rw [show exec .updateProcess s = execUpdateProcess s from rfl] at answer
  by_cases stale : r.stale (s.record slot) = true
  · rw [execUpdateProcess_stale ready stale, Host.Outcome.next.injEq] at answer
    subst answer
    exact staleOffer_storm slot _
  · rw [Bool.not_eq_true] at stale
    cases measured : r.measured with
    | none =>
      rw [execUpdateProcess_unmeasured ready stale (.inl measured), Host.Outcome.next.injEq] at answer
      exact answer ▸ processMissed_storm stormy slot
    | some m =>
      cases trains : r.trained with
      | none =>
        rw [execUpdateProcess_unmeasured ready stale (.inr trains), Host.Outcome.next.injEq] at answer
        exact answer ▸ processMissed_storm stormy slot
      | some trained =>
        rw [execUpdateProcess_clean ready stale measured trains, Host.Outcome.next.injEq] at answer
        exact answer ▸ processClean_storm stormy slot m trained

end Sys2Proof.Machine.AlignmentLaws
end

section
/-! ## The counting of one result (R110 to R121) -/

namespace Sys2Proof.Machine.CountingLaws

open AlignmentLaws

/-! ### Quality levels that count (R92, R116, R120) -/

/-- A burst is poor below 48 tenths. -/
theorem qualityOf_eq_zero_iff (mer : Int) : qualityOf mer = 0 ↔ mer ≤ 47 := by
  have level := qualityOf_eq mer
  omega

theorem two_le_qualityOf_iff (mer : Int) : 2 ≤ qualityOf mer ↔ 56 ≤ mer := by
  have level := qualityOf_eq mer
  omega

/-! ### ACQUIRE (R111 to R115, R119) -/

/-- The run of aligned results after this one (R112). -/
def alignedRun (p : Profile) (r : Record) (measured : Option Measurement) : Nat :=
  if measured.any (aligned p) then min 7 (r.alignedCount + 1) else 0

@[simp] theorem alignedRun_none (p : Profile) (r : Record) : alignedRun p r none = 0 := rfl

@[simp] theorem alignedRun_some (p : Profile) (r : Record) (m : Measurement) :
    alignedRun p r (some m) =
      if m.error.natAbs ≤ p.lockTiming ∧ (m.power - p.target).natAbs ≤ p.lockPower then min 7 (r.alignedCount + 1)
      else 0 := by
  simp only [alignedRun, Option.any_some, aligned, Bool.and_eq_true, decide_eq_true_eq]

section
variable {p : Profile} {run budget : Nat}

theorem acquisitionEnd_locked (locks : p.lockBursts ≤ run) (ends : p.endCondition = .either ∨ budget = 0) :
    acquisitionEnd p run budget = some .locked := by
  cases condition : p.endCondition with
  | either => simp only [acquisitionEnd, condition, if_pos locks]
  | budget =>
    obtain either | spent := ends
    · rw [condition] at either
      cases either
    · simp only [acquisitionEnd, condition, if_pos spent, if_pos locks]

theorem acquisitionEnd_exhausted (short : run < p.lockBursts) (spent : budget = 0) :
    acquisitionEnd p run budget = some .exhausted := by
  cases condition : p.endCondition <;>
    simp only [acquisitionEnd, condition, if_neg (Nat.not_le.2 short), if_pos spent]

theorem acquisitionEnd_none (goes_on : run < p.lockBursts ∨ p.endCondition = .budget) (unspent : budget ≠ 0) :
    acquisitionEnd p run budget = none := by
  cases condition : p.endCondition with
  | either =>
    obtain short | waits := goes_on
    · simp only [acquisitionEnd, condition, if_neg (Nat.not_le.2 short), if_neg unspent]
    · rw [condition] at waits
      cases waits
  | budget => simp only [acquisitionEnd, condition, if_neg unspent]

end

section
variable {p : Profile} {r : Record} {storm : Bool} {measured : Option Measurement}

/-- A counted result spends one unit of budget and sets the run; the end condition names the reason of the move, and
LOCKED alone clears the miss count (R111 to R114). -/
theorem countAcquire_counted (counts : storm = false ∨ measured ≠ none) :
    countAcquire p r storm measured =
      let ending := acquisitionEnd p (alignedRun p r measured) (r.budget - 1)
      { state := if ending = none then .acquire else if ending = some .locked then .track else .lost
        missCount := if ending = some .locked then 0 else r.missCount
        alignedCount := alignedRun p r measured, budget := r.budget - 1, reason := ending } := by
  have counted : ¬ (storm = true ∧ measured = none) := by
    rintro ⟨rfl, missed⟩
    exact counts.elim nofun (· missed)
  unfold countAcquire
  rw [if_neg counted]
  extract_lets hit run budget ending
  have run_eq : run = alignedRun p r measured := by cases measured <;> rfl
  rw [run_eq, show acquisitionEnd p (alignedRun p r measured) budget = ending from rfl]
  clear_value ending
  cases ending with
  | none => rfl
  | some reason => cases reason <;> rfl

theorem count_acquire (acquires : r.state = .acquire) : count p r storm measured = countAcquire p r storm measured := by
  simp only [count, acquires]

/-- R115: in STORM a MISSED result counts nothing in ACQUIRE. -/
theorem countAcquire_storm_missed : countAcquire p r true none = Counted.same r := if_pos ⟨rfl, rfl⟩

end

/-! ### TRACK (R115 to R117) -/

section
variable {p : Profile} {r : Record} {storm : Bool} {quality : Option Nat}

@[simp] theorem silent_none (p : Profile) : silent p none = true := rfl

@[simp] theorem silent_some_qualityOf (p : Profile) (mer : Int) :
    silent p (some (qualityOf mer)) = true ↔ p.silenceMode = .missedOrPoor ∧ mer ≤ 47 := by
  simp only [silent, Bool.and_eq_true, decide_eq_true_eq, qualityOf_eq_zero_iff]

theorem count_track (tracks : r.state = .track) (measured : Option Measurement) :
    count p r storm measured = countTrack p r storm (measured.map fun m => qualityOf m.mer) := by
  simp only [count, tracks]

theorem countTrack_heard (heard : ¬ silent p quality = true) :
    countTrack p r storm quality = { Counted.same r with missCount := 0 } := if_neg heard

theorem countTrack_silent_storm (quiet : silent p quality = true) :
    countTrack p r true quality = Counted.same r := by
  rw [countTrack, if_pos quiet, if_pos rfl]

theorem countTrack_silent_below (quiet : silent p quality = true) (below : r.missCount + 1 < p.silenceLimit) :
    countTrack p r false quality = { Counted.same r with missCount := r.missCount + 1 } := by
  rw [countTrack, if_pos quiet, if_neg Bool.false_ne_true, if_neg (Nat.not_le.2 below)]

theorem countTrack_silent_limit (quiet : silent p quality = true) (limit : p.silenceLimit ≤ r.missCount + 1) :
    countTrack p r false quality = { Counted.same r with state := .lost, missCount := 0, reason := some .silent } := by
  rw [countTrack, if_pos quiet, if_neg Bool.false_ne_true, if_pos limit]

/-- Budget and run count in ACQUIRE alone. -/
theorem countTrack_keeps (p : Profile) (r : Record) (storm : Bool) (quality : Option Nat) :
    (countTrack p r storm quality).budget = r.budget ∧
      (countTrack p r storm quality).alignedCount = r.alignedCount := by
  unfold countTrack
  split
  · split
    · exact ⟨rfl, rfl⟩
    · split <;> exact ⟨rfl, rfl⟩
  · exact ⟨rfl, rfl⟩

end

/-! ### LOST (R120, R121) -/

section
variable {p : Profile} {r : Record} {storm : Bool}

theorem count_lost (lost : r.state = .lost) (measured : Option Measurement) :
    count p r storm measured = countLost p r (measured.map fun m => qualityOf m.mer) := by
  simp only [count, lost]

theorem countLost_some_qualityOf (p : Profile) (r : Record) (mer : Int) :
    countLost p r (some (qualityOf mer)) =
      if 56 ≤ mer then
        { state := .acquire, missCount := 0, alignedCount := 0, budget := p.budget, reason := some .rejoined }
      else Counted.same r := by
  simp only [countLost, two_le_qualityOf_iff]

end

/-- Settles O24: the counting is taken apart by the state as read; in ACQUIRE the three endings decide the move, in
TRACK the silence of the result and its limit, in LOST the quality level. -/
theorem countingMovesTheState : Obligations.CountingMovesTheState := by
  unfold Obligations.CountingMovesTheState
  refine ⟨fun p r storm x acquires funded => ?_, fun p r storm x tracks => ?_, fun p r storm x lost => ?_⟩
  · intro run c
    have run_eq : run = alignedRun p r x := by cases x <;> simp [run]
    have c_eq : c = countAcquire p r storm x := count_acquire acquires
    clear_value run c
    subst run_eq c_eq
    refine ⟨?_, fun counts => ?_⟩
    · rintro rfl rfl
      exact countAcquire_storm_missed
    · rw [countAcquire_counted counts]
      refine ⟨rfl, rfl, fun locks ends => ?_, fun short last => ?_, fun goes_on unspent => ?_⟩
      · simp [acquisitionEnd_locked locks (ends.imp_right fun last => show r.budget - 1 = 0 by omega)]
      · simp [acquisitionEnd_exhausted short (show r.budget - 1 = 0 by omega)]
      · simp [acquisitionEnd_none goes_on (show r.budget - 1 ≠ 0 by omega)]
  · intro poor c
    have silent_iff : silent p (x.map fun m => qualityOf m.mer) = true ↔ poor := by cases x <;> simp [poor]
    have c_eq : c = countTrack p r storm (x.map fun m => qualityOf m.mer) := count_track tracks x
    clear_value poor c
    subst c_eq
    obtain ⟨budget, aligned⟩ := countTrack_keeps p r storm (x.map fun m => qualityOf m.mer)
    rw [← silent_iff]
    refine ⟨budget, aligned, fun heard => ?_, ?_, ?_, ?_⟩
    · rw [countTrack_heard heard]
      exact ⟨tracks, rfl, rfl⟩
    · rintro quiet rfl
      exact countTrack_silent_storm quiet
    · rintro quiet rfl below
      rw [countTrack_silent_below quiet below]
      exact ⟨tracks, rfl, rfl⟩
    · rintro quiet rfl limit
      rw [countTrack_silent_limit quiet limit]
      exact ⟨rfl, rfl, rfl⟩
  · rw [count_lost lost]
    refine ⟨?_, fun weak => ?_⟩
    · rintro m rfl strong
      rw [Option.map_some, countLost_some_qualityOf, if_pos strong]
    · cases x with
      | none => rfl
      | some m => rw [Option.map_some, countLost_some_qualityOf, if_neg (Int.not_le.2 (weak m rfl))]

end Sys2Proof.Machine.CountingLaws
end

section
/-! ## The DELIVERED request (R131) -/

namespace Sys2Proof.Machine.DeliveryLaws

/-! ### The table of R131, row by row -/

section
variable {now d : Time} {epoch : Nat} {r : Record} {c : Correction}

theorem deliveredAnswer_free (free : r.state = .free) : deliveredAnswer now epoch d r = (.noStation, none) :=
  if_pos free

theorem deliveredAnswer_settled (live : r.state ≠ .free) (settled : r.pending = none) :
    deliveredAnswer now epoch d r =
      (if ∃ e, r.lastWithdrawn = some e ∧ e.toNat = epoch then .tooLate else .nonePending, none) := by
  simp only [deliveredAnswer, if_neg live, settled, Option.map_eq_some_iff]
  split <;> rfl

theorem deliveredAnswer_otherEpoch (live : r.state ≠ .free) (pending : r.pending = some c)
    (other : c.epoch.toNat ≠ epoch) : deliveredAnswer now epoch d r = (.staleEpoch, none) := by
  simp only [deliveredAnswer, if_neg live, pending, if_pos other]

theorem deliveredAnswer_notIssued (live : r.state ≠ .free) (pending : r.pending = some c)
    (named : c.epoch.toNat = epoch) (state : c.state ≠ .issued) :
    deliveredAnswer now epoch d r = (.nonePending, none) := by
  simp only [deliveredAnswer, if_neg live, pending, named, ne_eq, not_true_eq_false, if_false, state, not_false_eq_true,
    if_true]

/-- The last two rows: D is refused before the issue time and after the count. -/
theorem deliveredAnswer_issued (live : r.state ≠ .free) (pending : r.pending = some c)
    (named : c.epoch.toNat = epoch) (issued : c.state = .issued) :
    deliveredAnswer now epoch d r =
      if 2147483648 ≤ (d - c.issueTime).toNat ∨ ((d - now).toNat < 2147483648 ∧ d ≠ now) then (.badArg, none)
      else (.ok, some c) := by
  simp only [deliveredAnswer, if_neg live, pending, named, ne_eq, not_true_eq_false, if_false, issued, before_iff,
    atOrAfter_iff]

end

/-! ### The request with the record in hand -/

section
variable {s : State} {slot n epoch : Nat} {d : Time} {image : Record}

theorem execDelivered_refuses {status : Status} (ready : s.command = .ready slot (.delivered n epoch d) image)
    (answer : deliveredAnswer s.now epoch d image = (status, none)) :
    execDelivered s = .next (s.refuse status) := by
  simp only [execDelivered, ready, answer]

theorem execDelivered_delivers {status : Status} {c : Correction}
    (ready : s.command = .ready slot (.delivered n epoch d) image)
    (answer : deliveredAnswer s.now epoch d image = (status, some c)) :
    execDelivered s = .next (State.commandPosts (.delivered n epoch d)
      { slot := slot, image := { image with pending := some { c with state := .delivered d } }
        deadline := .leave slot, released := none, taken := none } s) := by
  simp only [execDelivered, ready, answer]

end

/-! ### The request at the head of the queue -/

/-- A head is seen by the idle command engine only (R167). -/
theorem command_idle_of_headRequest {s : State} {request : Request} (head : s.headRequest = some request) :
    s.command = .idle := by
  unfold State.headRequest at head
  split at head
  next idle _ => exact idle
  next => cases head

theorem execDelivered_takes {s : State} {slot epoch : Nat} {d : Time}
    (head : s.headRequest = some (.delivered slot epoch d)) :
    execDelivered s = .next (if slot < 1024 ∧ epoch < 8
      then s.takeRequest.commandAcquires slot (.delivered slot epoch d) else s.takeRequest.refuse .badArg) := by
  simp only [execDelivered, command_idle_of_headRequest head, head, slotInRange_iff]

/-- Settles O26: the field checks of the taken request, then the rows of the table in order. -/
theorem deliveredAnswers : Obligations.DeliveredAnswers := by
  unfold Obligations.DeliveredAnswers
  refine ⟨fun s slot epoch d head => ⟨fun outside => ?_, fun slotFits epochFits => ?_⟩,
    fun s slot n epoch d image ready => ⟨fun free => ?_, fun live settled => ?_, fun c live pending => ⟨fun other => ?_,
      fun named state => ?_, fun named issued late => ?_, fun named issued sinceIssue upToNow => ?_⟩⟩⟩
  · exact (execDelivered_takes head).trans (congrArg _ (if_neg (by omega)))
  · exact (execDelivered_takes head).trans (congrArg _ (if_pos ⟨slotFits, epochFits⟩))
  · exact execDelivered_refuses ready (deliveredAnswer_free free)
  · exact execDelivered_refuses ready (deliveredAnswer_settled live settled)
  · exact execDelivered_refuses ready (deliveredAnswer_otherEpoch live pending other)
  · exact execDelivered_refuses ready (deliveredAnswer_notIssued live pending named state)
  · exact execDelivered_refuses ready ((deliveredAnswer_issued live pending named issued).trans (if_pos late))
  · have inTime : ¬ (2147483648 ≤ (d - c.issueTime).toNat ∨
        ((d - s.now).toNat < 2147483648 ∧ d ≠ s.now)) := by
      rintro (early | ⟨future, apart⟩)
      · omega
      · exact upToNow.elim (Nat.not_le.2 future) apart
    exact execDelivered_delivers ready ((deliveredAnswer_issued live pending named issued).trans (if_neg inTime))

end Sys2Proof.Machine.DeliveryLaws
end

section
/-! ## The withdrawal of an expired correction (R129, R130) -/

namespace Sys2Proof.Machine.DeliveryLaws

/-! ### Which correction is withdrawn -/

theorem same_iff_keys (e x : DeadlineEntry) :
    e.same x = true ↔ x.slot = e.slot ∧ x.epoch = e.epoch ∧ x.issueTime = e.issueTime := by
  simp only [DeadlineEntry.same, Bool.and_eq_true, decide_eq_true_eq, and_assoc]

section
variable {s : State} {e x : DeadlineEntry} {slot : Nat} {image : Record} {c : Correction}

theorem withdrawable_gone
    (gone : ∀ x ∈ s.deadlines, ¬ (x.slot = e.slot ∧ x.epoch = e.epoch ∧ x.issueTime = e.issueTime)) :
    s.withdrawable e image = none := by
  refine if_neg fun listed => ?_
  obtain ⟨x, mem, same⟩ := List.any_eq_true.1 listed
  exact gone x mem ((same_iff_keys e x).1 same)

theorem withdrawable_listed (mem : x ∈ s.deadlines)
    (same : x.slot = e.slot ∧ x.epoch = e.epoch ∧ x.issueTime = e.issueTime) (pending : image.pending = some c)
    (matching : c.state = .issued ∧ c.epoch = e.epoch ∧ c.issueTime = e.issueTime) :
    s.withdrawable e image = some c := by
  have listed : s.deadlines.any e.same = true := List.any_eq_true.2 ⟨x, mem, (same_iff_keys e x).2 same⟩
  simp only [State.withdrawable, listed, if_true, DeadlineEntry.correction, pending, if_pos matching]

/-! ### The two commands -/

theorem execWithdrawalStart_first (idle : s.timer = .idle) (first : s.deadlines.find? (fun e => e.expired) = some e) :
    execWithdrawalStart s = .next (s.timerAcquires e.slot e) := by
  simp only [execWithdrawalStart, idle, first]

/-- A busy timer begins no second withdrawal, and an idle one none without a marked entry (R129). -/
theorem execWithdrawalStart_stays (stays : s.timer ≠ .idle ∨ s.deadlines.find? (fun e => e.expired) = none) :
    execWithdrawalStart s = .next s := by
  unfold execWithdrawalStart
  split
  next idle =>
    have unmarked := stays.resolve_left fun busy => busy idle
    simp only [unmarked]
  next => rfl

theorem execCorrectionWithdraw_gone (ready : s.timer = .ready slot e image) (gone : s.withdrawable e image = none) :
    execCorrectionWithdraw s = .next { s with timer := .idle } := by
  simp only [execCorrectionWithdraw, ready, gone]

/-- The report is the first under the hold: it carries the gap mark of the image as read, and the flag that the new
image holds is set exactly when the report is dropped (R130, R171). -/
theorem execCorrectionWithdraw_withdraws (ready : s.timer = .ready slot e image)
    (found : s.withdrawable e image = some c) :
    execCorrectionWithdraw s = .next (State.timerPosts e
      { slot := slot, image := { image.withdrawn c with gap := decide (64 ≤ s.reports.length) }
        deadline := .leave slot, released := none, taken := none }
      ((s.raise .correctionWithdrawn).offer (withdrawnReport slot image c image.gap))) := by
  simp only [execCorrectionWithdraw, ready, found, State.offerHeld_start]
  rfl

end

/-- Settles O25: the timer's choice is the first marked entry of the list; the withdrawal turns on whether the entry in
hand is still listed. -/
theorem withdrawalRevertsTheTotals : Obligations.WithdrawalRevertsTheTotals := by
  unfold Obligations.WithdrawalRevertsTheTotals
  refine ⟨fun s before after e idle list unmarked marked => execWithdrawalStart_first idle ?_,
    fun s stays => execWithdrawalStart_stays (stays.imp_right fun unmarked => ?_),
    fun s slot e image ready => ⟨fun gone => execCorrectionWithdraw_gone ready (withdrawable_gone gone),
      fun x mem c slot_eq epoch_eq issue_eq pending issued epoch issue => ?_⟩⟩
  · exact List.find?_eq_some_iff_append.2 ⟨marked, before, after, list, fun x mem => by simp [unmarked x mem]⟩
  · exact List.find?_eq_none.2 fun x mem => by simp [unmarked x mem]
  · exact execCorrectionWithdraw_withdraws ready
      (withdrawable_listed mem ⟨slot_eq, epoch_eq, issue_eq⟩ pending ⟨issued, epoch, issue⟩)

end Sys2Proof.Machine.DeliveryLaws
end

section
/-! ## PROFILE_SET and PROFILE_GET (R142, R144, R146) -/

namespace Sys2Proof.Machine.ProfileLaws

/-! ### The checks on a profile's fields (R142, R175) -/

theorem endConditionOf_eq (code : Nat) :
    endConditionOf code = if code ≤ 1 then some (if code = 0 then .either else .budget) else none := by
  match code with
  | 0 | 1 => rfl
  | n + 2 => exact (if_neg (by omega)).symm

theorem silenceModeOf_eq (code : Nat) :
    silenceModeOf code = if code ≤ 1 then some (if code = 0 then .missedOnly else .missedOrPoor) else none := by
  match code with
  | 0 | 1 => rfl
  | n + 2 => exact (if_neg (by omega)).symm

/-- The ranges and the two relations of R142. -/
def ProfileSound (raw : RawProfile) : Prop :=
  (-64 ≤ raw.target ∧ raw.target ≤ 63) ∧ raw.powerDeadband ≤ 31 ∧ (1 ≤ raw.powerStep ∧ raw.powerStep ≤ 48) ∧
  (-128 ≤ raw.powerFloor ∧ raw.powerFloor ≤ raw.powerCeiling ∧ raw.powerCeiling ≤ 127) ∧
  raw.timingDeadband ≤ 255 ∧ (1 ≤ raw.timingStep ∧ raw.timingStep ≤ 4095) ∧
  (64 ≤ raw.trackWindow ∧ raw.trackWindow ≤ 16383 ∧ raw.timingStep ≤ raw.trackWindow) ∧
  (256 ≤ raw.acquisitionWindow ∧ raw.acquisitionWindow ≤ 262143) ∧ raw.freqDeadband ≤ 2000 ∧
  raw.lockTiming ≤ 4095 ∧ raw.lockPower ≤ 31 ∧ (1 ≤ raw.lockBursts ∧ raw.lockBursts ≤ 7) ∧
  (1 ≤ raw.budget ∧ raw.budget ≤ 63) ∧ raw.endCode ≤ 1 ∧ (1 ≤ raw.silenceLimit ∧ raw.silenceLimit ≤ 15) ∧
  raw.modeCode ≤ 1 ∧ raw.smoothing ≤ 6 ∧ (1 ≤ raw.tapThreshold ∧ raw.tapThreshold ≤ 1023) ∧
  (4096 ≤ raw.deliveryLimit ∧ raw.deliveryLimit ≤ 16777215) ∧ raw.settle ≤ 1048575

/-- The profile of a frame's twenty-one fields, with the two modes their codes name. -/
def profileGiven (raw : RawProfile) : Profile :=
  { target := raw.target, powerDeadband := raw.powerDeadband, powerStep := raw.powerStep
    powerFloor := raw.powerFloor, powerCeiling := raw.powerCeiling, timingDeadband := raw.timingDeadband
    timingStep := raw.timingStep, trackWindow := raw.trackWindow, acquisitionWindow := raw.acquisitionWindow
    freqDeadband := raw.freqDeadband, lockTiming := raw.lockTiming, lockPower := raw.lockPower
    lockBursts := raw.lockBursts, budget := raw.budget
    endCondition := if raw.endCode = 0 then .either else .budget
    silenceLimit := raw.silenceLimit, silenceMode := if raw.modeCode = 0 then .missedOnly else .missedOrPoor
    smoothing := raw.smoothing, tapThreshold := raw.tapThreshold, deliveryLimit := raw.deliveryLimit
    settle := raw.settle }

/-- The model's checks of the two codes, the ranges and the relations are together those of R142: the relation of floor
and ceiling makes one bound of each redundant. -/
theorem profileSound_iff_checks (raw : RawProfile) :
    ProfileSound raw ↔ raw.endCode ≤ 1 ∧ raw.modeCode ≤ 1 ∧ (raw.inRange && raw.related) = true := by
  simp only [ProfileSound, RawProfile.inRange, RawProfile.related, Bool.and_eq_true, within_iff, decide_eq_true_eq]
  omega

theorem check_eq_some_iff (raw : RawProfile) (fields : Profile) :
    raw.check = some fields ↔ ProfileSound raw ∧ fields = profileGiven raw := by
  rw [profileSound_iff_checks, RawProfile.check, endConditionOf_eq, silenceModeOf_eq]
  by_cases endCode : raw.endCode ≤ 1
  · by_cases modeCode : raw.modeCode ≤ 1
    · simp only [endCode, modeCode, if_true, Option.ite_none_right_eq_some, Option.some.injEq, true_and,
        eq_comm (a := fields), profileGiven]
    · simp [endCode, modeCode]
  · simp [endCode]

theorem check_ne_none_iff (raw : RawProfile) : raw.check ≠ none ↔ ProfileSound raw := by
  rw [Option.ne_none_iff_exists']
  exact ⟨fun ⟨fields, passed⟩ => ((check_eq_some_iff raw fields).1 passed).1,
    fun sound => ⟨profileGiven raw, (check_eq_some_iff raw _).2 ⟨sound, rfl⟩⟩⟩

/-! ### The two requests -/

section
variable {s : State} {n : Nat} {raw : RawProfile} {p : ProfileId} {fields : Profile}

theorem execProfileSet_badArg (head : s.headRequest = some (.profileSet n raw)) (noProfile : 8 ≤ n) :
    execProfileSet s = .next (s.takeRequest.refuse .badArg) := by
  simp only [execProfileSet, head, profileOf_eq_none.2 noProfile]

theorem execProfileSet_badProfile (head : s.headRequest = some (.profileSet n raw)) (named : p.val = n)
    (failed : raw.check = none) : execProfileSet s = .next (s.takeRequest.refuse .badProfile) := by
  simp only [execProfileSet, head, profileOf_eq_some.2 named, failed]

theorem execProfileSet_inUse (head : s.headRequest = some (.profileSet n raw)) (named : p.val = n)
    (passed : raw.check = some fields) (used : (s.profileEntry p).useCount ≠ 0) :
    execProfileSet s = .next (s.takeRequest.refuse .inUse) := by
  simp only [execProfileSet, head, profileOf_eq_some.2 named, passed, State.takeRequest_profileEntry, used, if_false]

theorem execProfileSet_writes (head : s.headRequest = some (.profileSet n raw)) (named : p.val = n)
    (passed : raw.check = some fields) (unused : (s.profileEntry p).useCount = 0) :
    execProfileSet s = .next
      ((s.takeRequest.setProfileEntry p { fields := fields, useCount := 0 }).answer .ok .empty) := by
  simp only [execProfileSet, head, profileOf_eq_some.2 named, passed, State.takeRequest_profileEntry, unused, if_true]

theorem execProfileGet_badArg (head : s.headRequest = some (.profileGet n)) (noProfile : 8 ≤ n) :
    execProfileGet s = .next (s.takeRequest.refuse .badArg) := by
  simp only [execProfileGet, head, profileOf_eq_none.2 noProfile]

theorem execProfileGet_shows (head : s.headRequest = some (.profileGet n)) (named : p.val = n) :
    execProfileGet s =
      .next (s.takeRequest.answer .ok (.profile p (s.profile p) (s.profileEntry p).useCount)) := by
  simp only [execProfileGet, head, profileOf_eq_some.2 named, State.profile, State.takeRequest_profileEntry]

end

/-- Settles O39: the checks of PROFILE_SET in their order, what its field check lets pass, and the reply of
PROFILE_GET. -/
theorem profileSetAndGet : Obligations.ProfileSetAndGet := by
  unfold Obligations.ProfileSetAndGet
  refine ⟨fun s n raw head => ⟨execProfileSet_badArg head, fun p named => ⟨execProfileSet_badProfile head named,
      fun fields => execProfileSet_inUse head named, fun fields => execProfileSet_writes head named⟩⟩,
    fun raw => ⟨check_ne_none_iff raw, fun fields passed => ?_⟩,
    fun s n head => ⟨execProfileGet_badArg head, fun p named => execProfileGet_shows head named⟩⟩
  exact ((check_eq_some_iff raw fields).1 passed).2

end Sys2Proof.Machine.ProfileLaws
end

section
/-! ## NOISE_MODE and NOISE_STATUS (R153, R155, R163) -/

namespace Sys2Proof.Machine.NoiseLaws

/-- The codes of R175 for a monitor's mode. -/
theorem noiseModeOf_named {code : Nat} (named : code < 3) :
    noiseModeOf code = some (if code = 0 then .off else if code = 1 then .periodic else .every) := by
  match code with
  | 0 | 1 | 2 => rfl
  | n + 3 => omega

theorem noiseModeOf_unnamed {code : Nat} (unnamed : 3 ≤ code) : noiseModeOf code = none := by
  match code with
  | 0 | 1 | 2 => omega
  | n + 3 => rfl

/-- The new interval is tested at once, and only the mark depends on the test (R155). -/
theorem setMode_eq (now : Time) (mode : NoiseMode) (seconds : Nat) (m : Monitor) :
    m.setMode now mode seconds =
      { m with
        mode := mode
        interval := seconds * 20000000
        mark := match m.latched with
          | none => m.mark
          | some k => m.mark || decide (seconds * 20000000 ≤ (now - k.lastStart).toNat) } := by
  obtain ⟨oldMode, interval, latched, mark, consecutive⟩ := m
  cases latched <;> rfl

theorem busy_eq (x : Lane) : x.busy = decide (∃ h ∈ x.held, h.reception = .quietMeasuring) := by
  rw [Bool.eq_iff_iff]
  simp only [Lane.busy, List.any_eq_true, decide_eq_true_eq]

section
variable {s : State} {n code seconds : Nat} {l : LaneId}

theorem execNoiseMode_badArg (head : s.headRequest = some (.noiseMode n code seconds))
    (bad : 4 ≤ n ∨ 3 ≤ code ∨ seconds = 0 ∨ 60 < seconds) :
    execNoiseMode s = .next (s.takeRequest.refuse .badArg) := by
  simp only [execNoiseMode, head]
  cases lane : laneOf n with
  | none => rfl
  | some l =>
    cases mode : noiseModeOf code with
    | none => rfl
    | some m =>
      have validLane : ¬ 4 ≤ n := fun noLane => by rw [laneOf_eq_none.2 noLane] at lane; cases lane
      have validMode : ¬ 3 ≤ code := fun noMode => by rw [noiseModeOf_unnamed noMode] at mode; cases mode
      have outside : ¬ (1 ≤ seconds ∧ seconds ≤ 60) := by omega
      exact congrArg _ (if_neg outside)

theorem execNoiseMode_sets (head : s.headRequest = some (.noiseMode n code seconds)) (lane : l.val = n)
    (mode : code < 3) (low : 1 ≤ seconds) (high : seconds ≤ 60) :
    execNoiseMode s = .next ((s.takeRequest.setLane l { s.lane l with
      monitor := (s.lane l).monitor.setMode s.clock.count
        (if code = 0 then .off else if code = 1 then .periodic else .every) seconds }).answer .ok .empty) := by
  simp only [execNoiseMode, head, laneOf_eq_some.2 lane, noiseModeOf_named mode]
  exact congrArg _ (if_pos ⟨low, high⟩)

theorem execNoiseStatus_badArg (head : s.headRequest = some (.noiseStatus n)) (noLane : 4 ≤ n) :
    execNoiseStatus s = .next (s.takeRequest.refuse .badArg) := by
  simp only [execNoiseStatus, head, laneOf_eq_none.2 noLane]

theorem execNoiseStatus_shows (head : s.headRequest = some (.noiseStatus n)) (lane : l.val = n) :
    execNoiseStatus s = .next (s.takeRequest.answer .ok (.noise (noiseStatusOf l (s.lane l)))) := by
  simp only [execNoiseStatus, head, laneOf_eq_some.2 lane, State.takeRequest_lane]

end

/-- Settles O41: the two requests, each refused or answered. -/
theorem noiseModeAndStatus : Obligations.NoiseModeAndStatus := by
  unfold Obligations.NoiseModeAndStatus
  refine ⟨fun s n code seconds head => ⟨execNoiseMode_badArg head, fun l lane mode low high => ?_⟩,
    fun s n head => ⟨execNoiseStatus_badArg head, fun l lane => ?_⟩⟩
  · have sets := execNoiseMode_sets head lane mode low high
    rw [setMode_eq] at sets
    exact sets
  · have shows := execNoiseStatus_shows head lane
    rw [noiseStatusOf, busy_eq] at shows
    exact shows

end Sys2Proof.Machine.NoiseLaws
end

section
/-! ## NOISE_LATCH (R157 to R159) -/

namespace Sys2Proof.Machine.NoiseLaws

/-! ### What a measurement latches (R157) -/

theorem gradeOf_eq (level : Int) : gradeOf level = (max 0 (min 15 ((level + 240) / 16))).toNat := by
  rw [gradeOf, clamp_eq _ (by decide)]
  rfl

theorem latchOf_eq (start : Time) (power : Int) :
    latchOf start power =
      { level := max (-320) (min 80 power)
        saturated := decide (power < -320 ∨ 80 < power)
        grade := (max 0 (min 15 ((max (-320) (min 80 power) + 240) / 16))).toNat
        lastStart := start } := by
  have saturated : clampBites power (-320) 80 = decide (power < -320 ∨ 80 < power) := by
    rw [Bool.eq_iff_iff, clampBites_iff, decide_eq_true_eq]
  rw [latchOf, gradeOf_eq, saturated, clamp_eq _ (by decide)]

/-! ### The table of R159, row by row -/

section
variable {mode : LaneMode} {n grade : Nat}

theorem stormStep_run_enters (running : mode = .run) (top : grade = 15) (fourth : 3 ≤ n) :
    stormStep mode n grade = { consecutive := 4, mode := .storm, transition := .entered } := by
  subst running
  exact (if_pos top).trans (if_pos (by omega))

theorem stormStep_run_counts (running : mode = .run) (top : grade = 15) (early : n < 3) :
    stormStep mode n grade = { consecutive := n + 1, mode := .run, transition := .none } := by
  subst running
  exact (if_pos top).trans (if_neg (by omega))

theorem stormStep_run_clears (running : mode = .run) (lower : grade < 15) :
    stormStep mode n grade = { consecutive := 0, mode := .run, transition := .none } := by
  subst running
  exact if_neg (by omega)

theorem stormStep_storm_counts (storming : mode = .storm) (top : grade = 15) :
    stormStep mode n grade = { consecutive := min 4 (n + 1), mode := .storm, transition := .none } := by
  subst storming
  exact if_pos top

theorem stormStep_storm_stays (storming : mode = .storm) (next : grade = 14) :
    stormStep mode n grade = { consecutive := 0, mode := .storm, transition := .none } := by
  subst storming
  exact (if_neg (by omega)).trans (if_pos next)

theorem stormStep_storm_leaves (storming : mode = .storm) (lower : grade < 14) :
    stormStep mode n grade = { consecutive := 0, mode := .run, transition := .left } := by
  subst storming
  exact (if_neg (by omega)).trans (if_neg (by omega))

end

/-! ### The command -/

/-- At the end of the grant being measured the lane latches, and the step of R159 decides the cause and the report. -/
theorem execNoiseLatch_latches {s : State} {l : LaneId} {power : Int} {h : Held} {rest : List Held} {step : StormStep}
    (held : (s.lane l).held = h :: rest) (measuring : h.reception = .quietMeasuring)
    (ended : atOrAfter s.now ((s.lane l).endOf h.grant) = true)
    (moved : stormStep (s.lane l).mode (s.lane l).monitor.consecutive (latchOf h.grant.start power).grade = step) :
    execNoiseLatch l power s = .next (State.offer (.noise (noiseReport l h.grant.start power step))
      (State.raiseTransition step.transition (s.setLane l { s.lane l with
        mode := step.mode
        held := rest
        monitor := { (s.lane l).monitor with
          latched := some (latchOf h.grant.start power), mark := false, consecutive := step.consecutive } }))) := by
  have received := PlantIntake.headEnded_eq_some held measuring ended
  simp only [execNoiseLatch, received, Lane.latch, moved, held, List.tail_cons]

/-- Settles O12: one equation for every latch, used with each row of the table of R159. -/
theorem noiseLatchMovesTheStorm : Obligations.NoiseLatchMovesTheStorm := by
  unfold Obligations.NoiseLatchMovesTheStorm
  intro s l power h rest held measuring ended level grade latched told n
  have latches (step : StormStep) (moved : stormStep (s.lane l).mode n grade = step) :
      exec (.noiseLatch l power) s = .next (told step.mode step.consecutive step.transition
        (State.raiseTransition step.transition (latched step.mode step.consecutive))) := by
    have answers := execNoiseLatch_latches (power := power) (step := step) held measuring
      ((atOrAfter_iff s.now _).2 ended) (by rw [latchOf_eq]; exact moved)
    rw [noiseReport, latchOf_eq] at answers
    exact answers
  refine ⟨fun running => ⟨?_, ?_, ?_⟩, fun storming => ⟨?_, ?_, ?_⟩, ?_⟩
  · exact fun top fourth => latches _ (stormStep_run_enters running top fourth)
  · exact fun top early => latches _ (stormStep_run_counts running top early)
  · exact fun lower => latches _ (stormStep_run_clears running lower)
  · exact fun top => latches _ (stormStep_storm_counts storming top)
  · exact fun next => latches _ (stormStep_storm_stays storming next)
  · exact fun lower => latches _ (stormStep_storm_leaves storming lower)
  · exact Nat.le_trans (Nat.le_of_eq (gradeOf_eq level).symm) (gradeOf_le level)

end Sys2Proof.Machine.NoiseLaws
end

section
/-! ## The alert unit: the line, the first pending group, and the three requests (R183 to R188)

A cause set is read cause by cause: its twelve bits are the twelve causes, and the set of a group holds exactly the causes
of that group. The first pending group is a fold over the groups in the fixed order; `FirstAmong` says what the fold knows
after each group, and fixes its result uniquely. -/

namespace Sys2Proof.Machine.AlertLaws

/-! ### Causes, their bits and their groups -/

/-- The group of a cause (R183). -/
def groupOf : Cause → AlertGroup
  | .stormEnter | .stormLeave | .clockSlip => .plant
  | .stationLost | .correctionWithdrawn | .newcomerSeen => .station
  | .grantRefused | .reportDropped | .resultUnprocessed | .orphanGrant => .flow
  | .sweepEnded | .requestOverrun => .service

theorem bit_lt (c : Cause) : c.bit < 12 := by cases c <;> decide

/-- Every bit of a cause set names a cause. -/
theorem exists_bit_eq : ∀ k < 12, ∃ c : Cause, c.bit = k
  | 0, _ => ⟨.stormEnter, rfl⟩
  | 1, _ => ⟨.stormLeave, rfl⟩
  | 2, _ => ⟨.clockSlip, rfl⟩
  | 3, _ => ⟨.stationLost, rfl⟩
  | 4, _ => ⟨.correctionWithdrawn, rfl⟩
  | 5, _ => ⟨.newcomerSeen, rfl⟩
  | 6, _ => ⟨.grantRefused, rfl⟩
  | 7, _ => ⟨.reportDropped, rfl⟩
  | 8, _ => ⟨.resultUnprocessed, rfl⟩
  | 9, _ => ⟨.orphanGrant, rfl⟩
  | 10, _ => ⟨.sweepEnded, rfl⟩
  | 11, _ => ⟨.requestOverrun, rfl⟩
  | k + 12, h => absurd h (by omega)

/-- A cause set is not empty exactly when it holds a cause. -/
theorem causeSet_ne_zero_iff (set : BitVec 12) : set ≠ 0 ↔ ∃ c : Cause, set.getLsbD c.bit = true := by
  constructor
  · intro nonzero
    refine Classical.byContradiction fun none => nonzero (BitVec.eq_of_getLsbD_eq fun k hk => ?_)
    obtain ⟨c, rfl⟩ := exists_bit_eq k hk
    have clear : set.getLsbD c.bit = false := Bool.eq_false_iff.2 fun isSet => none ⟨c, isSet⟩
    rw [clear]
    exact BitVec.getLsbD_zero.symm
  · rintro ⟨c, isSet⟩ rfl
    simp at isSet

/-- The set of a group holds exactly the causes of the group. -/
theorem causes_getLsbD_bit (g : AlertGroup) (c : Cause) : g.causes.getLsbD c.bit = true ↔ groupOf c = g := by
  cases g <;> cases c <;> decide

theorem causeSet_ofNat_getLsbD_bit (bits : Nat) (c : Cause) : (BitVec.ofNat 12 bits).getLsbD c.bit = bits.testBit c.bit := by
  rw [BitVec.getLsbD_ofNat, decide_eq_true (bit_lt c), Bool.true_and]

theorem causeSet_eq_some {bits : Nat} (known : bits < 4096) : causeSet bits = some (BitVec.ofNat 12 bits) := if_pos known

theorem causeSet_eq_none {bits : Nat} (unknown : 4096 ≤ bits) : causeSet bits = none := if_neg (by omega)

/-! ### Asserting groups and the ALERT line (R185) -/

section
variable (u : AlertUnit)

theorem asserting_iff (g : AlertGroup) : u.asserting g = true ↔
    0 < u.priority g ∧ u.threshold ≤ u.priority g ∧
      ∃ c, groupOf c = g ∧ u.flags.getLsbD c.bit = true ∧ u.enables.getLsbD c.bit = true := by
  have someCause : u.flags &&& u.enables &&& g.causes ≠ 0 ↔
      ∃ c, groupOf c = g ∧ u.flags.getLsbD c.bit = true ∧ u.enables.getLsbD c.bit = true := by
    rw [causeSet_ne_zero_iff]
    refine exists_congr fun c => ?_
    rw [BitVec.getLsbD_and, BitVec.getLsbD_and, Bool.and_eq_true, Bool.and_eq_true, causes_getLsbD_bit, and_comm]
  simp only [AlertUnit.asserting, Bool.and_eq_true, decide_eq_true_iff, someCause, and_assoc]

theorem mem_alertGroups (g : AlertGroup) : g ∈ alertGroups := by cases g <;> decide

theorem line_iff : u.line = true ↔ ∃ g, u.asserting g = true := by
  simp [AlertUnit.line, List.any_eq_true, mem_alertGroups]

/-- The line is asserted for a cause that is set and enabled, of a group with a priority above 0. -/
theorem exists_cause_of_line (asserted : u.line = true) :
    ∃ c, u.flags.getLsbD c.bit = true ∧ u.enables.getLsbD c.bit = true ∧ 0 < u.priority (groupOf c) := by
  obtain ⟨g, asserting⟩ := (line_iff u).1 asserted
  obtain ⟨priority, -, c, rfl, flag, enabled⟩ := (asserting_iff u g).1 asserting
  exact ⟨c, flag, enabled, priority⟩

/-! ### The first pending group (R186) -/

/-- The place of a group in the fixed group order. -/
def place : AlertGroup → Nat
  | .plant => 0
  | .station => 1
  | .flow => 2
  | .service => 3

theorem alertGroups_getElem?_place (g : AlertGroup) : alertGroups[place g]? = some g := by cases g <;> rfl

theorem place_injective {g h : AlertGroup} (same : place g = place h) : g = h := by
  have atPlace := alertGroups_getElem?_place g
  rw [same, alertGroups_getElem?_place h] at atPlace
  exact (Option.some.inj atPlace).symm

/-- Group `h` yields to group `g`: it has a lower priority, or an equal one and no earlier place. -/
def YieldsTo (h g : AlertGroup) : Prop :=
  u.priority h < u.priority g ∨ (u.priority h = u.priority g ∧ place g ≤ place h)

theorem YieldsTo.trans {u : AlertUnit} {f g h : AlertGroup} (fg : YieldsTo u f g) (gh : YieldsTo u g h) : YieldsTo u f h := by
  unfold YieldsTo at *
  omega

theorem YieldsTo.antisymm {u : AlertUnit} {g h : AlertGroup} (hg : YieldsTo u h g) (gh : YieldsTo u g h) : g = h := by
  refine place_injective ?_
  unfold YieldsTo at *
  omega

/-- `best` is the first pending group among those of `seen`: none of them asserts, or all that assert yield to it. -/
def FirstAmong (seen : List AlertGroup) : Option AlertGroup → Prop
  | none => ∀ h ∈ seen, u.asserting h = false
  | some g => g ∈ seen ∧ u.asserting g = true ∧ ∀ h ∈ seen, u.asserting h = true → YieldsTo u h g

variable {u} {seen : List AlertGroup} {g : AlertGroup}

theorem FirstAmong.unique : ∀ {a b : Option AlertGroup}, FirstAmong u seen a → FirstAmong u seen b → a = b
  | none, none, _, _ => rfl
  | none, some h, idle, ⟨hSeen, hAsserts, _⟩ => absurd (idle h hSeen) (by simp [hAsserts])
  | some g, none, ⟨gSeen, gAsserts, _⟩, idle => absurd (idle g gSeen) (by simp [gAsserts])
  | some g, some h, ⟨gSeen, gAsserts, gBest⟩, ⟨hSeen, hAsserts, hBest⟩ =>
    congrArg some ((gBest h hSeen hAsserts).antisymm (hBest g gSeen gAsserts))

/-- A group that does not assert leaves the first pending group as it is. -/
theorem FirstAmong.append_idle {best : Option AlertGroup} (first : FirstAmong u seen best) (idle : u.asserting g = false) :
    FirstAmong u (seen ++ [g]) best := by
  cases best with
  | none => simpa [FirstAmong, or_imp, forall_and, idle] using first
  | some b =>
    obtain ⟨bSeen, bAsserts, bBest⟩ := first
    refine ⟨List.mem_append_left _ bSeen, bAsserts, fun h hSeen hAsserts => ?_⟩
    rcases List.mem_append.1 hSeen with old | new
    · exact bBest h old hAsserts
    · rw [List.mem_singleton.1 new, idle] at hAsserts
      cases hAsserts

/-- A group that asserts becomes the first pending one if every earlier asserting group yields to it. -/
theorem FirstAmong.append_new (asserts : u.asserting g = true)
    (yields : ∀ h ∈ seen, u.asserting h = true → YieldsTo u h g) : FirstAmong u (seen ++ [g]) (some g) := by
  refine ⟨by simp, asserts, fun h hSeen hAsserts => ?_⟩
  rcases List.mem_append.1 hSeen with old | new
  · exact yields h old hAsserts
  · rw [List.mem_singleton.1 new]
    exact .inr ⟨rfl, Nat.le_refl _⟩

/-- A group that yields to the first pending one leaves it as it is. -/
theorem FirstAmong.append_yielding {b : AlertGroup} (first : FirstAmong u seen (some b)) (yields : YieldsTo u g b) :
    FirstAmong u (seen ++ [g]) (some b) := by
  obtain ⟨bSeen, bAsserts, bBest⟩ := first
  refine ⟨List.mem_append_left _ bSeen, bAsserts, fun h hSeen hAsserts => ?_⟩
  rcases List.mem_append.1 hSeen with old | new
  · exact bBest h old hAsserts
  · rwa [List.mem_singleton.1 new]

/-- One step of the fold: the group that comes next in the fixed order is compared with the best so far. -/
theorem FirstAmong.better {best : Option AlertGroup} (first : FirstAmong u seen best)
    (later : ∀ h ∈ seen, place h < place g) : FirstAmong u (seen ++ [g]) (u.better best g) := by
  unfold AlertUnit.better
  split
  · next asserts =>
    cases best with
    | none => exact .append_new asserts fun h hSeen hAsserts => absurd (first h hSeen) (by simp [hAsserts])
    | some b =>
      obtain ⟨bSeen, _, bBest⟩ := id first
      dsimp only
      split
      · next higher => exact .append_new asserts fun h hSeen hAsserts => (bBest h hSeen hAsserts).trans (.inl higher)
      · have bEarlier := later b bSeen
        exact first.append_yielding (by unfold YieldsTo; omega)
  · next idle => exact first.append_idle (Bool.eq_false_iff.2 idle)

theorem FirstAmong.foldl_better {best : Option AlertGroup} (rest : List AlertGroup) (first : FirstAmong u seen best)
    (inOrder : (seen ++ rest).Pairwise (place · < place ·)) : FirstAmong u (seen ++ rest) (rest.foldl u.better best) := by
  induction rest generalizing seen best with
  | nil => simpa using first
  | cons g rest ih =>
    rw [List.append_cons] at inOrder ⊢
    have later : ∀ h ∈ seen, place h < place g := fun h hSeen =>
      (List.pairwise_append.1 (List.pairwise_append.1 inOrder).1).2.2 h hSeen g (by simp)
    exact ih (first.better later) inOrder

theorem firstPending_eq_iff (best : Option AlertGroup) : u.firstPending = best ↔ FirstAmong u alertGroups best := by
  have first : FirstAmong u alertGroups u.firstPending :=
    FirstAmong.foldl_better (seen := []) alertGroups (best := none) (fun _ h => absurd h List.not_mem_nil) (by decide)
  exact ⟨fun h => h ▸ first, first.unique⟩

theorem firstPending_eq_none_iff : u.firstPending = none ↔ ∀ g, u.asserting g = false := by
  simp [firstPending_eq_iff, FirstAmong, mem_alertGroups]

theorem firstPending_eq_some_iff : u.firstPending = some g ↔
    u.asserting g = true ∧ ∀ h, u.asserting h = true → YieldsTo u h g := by
  simp [firstPending_eq_iff, FirstAmong, mem_alertGroups]

end

/-! ### The three requests (R186 to R188) -/

section
variable {s : State}

theorem execAlertRead_answers (head : s.headRequest = some .alertRead) : execAlertRead s =
    .next (s.takeRequest.answer .ok (.alert s.alert.flags s.alert.line s.alert.firstPending)) := by
  simp only [execAlertRead, head]

theorem execAlertAck_refuses {causes : Nat} (head : s.headRequest = some (.alertAck causes)) (unknown : 4096 ≤ causes) :
    execAlertAck s = .next (s.takeRequest.refuse .badArg) := by
  simp only [execAlertAck, head, causeSet_eq_none unknown]

theorem execAlertAck_clears {causes : Nat} (head : s.headRequest = some (.alertAck causes)) (known : causes < 4096) :
    execAlertAck s = .next ({ s.takeRequest with alert := { s.alert with
      flags := s.alert.flags &&& ~~~BitVec.ofNat 12 causes } }.answer .ok .empty) := by
  simp only [execAlertAck, head, causeSet_eq_some known, State.takeRequest_alert]

/-- After the named causes are cleared, the flag of a cause is what it was unless the cause is named. -/
theorem cleared_getLsbD_bit (flags : BitVec 12) (causes : Nat) (c : Cause) :
    (flags &&& ~~~BitVec.ofNat 12 causes).getLsbD c.bit = (flags.getLsbD c.bit && !causes.testBit c.bit) := by
  rw [BitVec.getLsbD_and, BitVec.getLsbD_not, causeSet_ofNat_getLsbD_bit, decide_eq_true (bit_lt c), Bool.true_and]

variable {enables plant station flow service threshold : Nat}

theorem execAlertSet_refuses_unknown (head : s.headRequest = some (.alertSet enables plant station flow service threshold))
    (unknown : 4096 ≤ enables) : execAlertSet s = .next (s.takeRequest.refuse .badArg) := by
  simp only [execAlertSet, head, causeSet_eq_none unknown]

theorem execAlertSet_refuses_range (head : s.headRequest = some (.alertSet enables plant station flow service threshold))
    (outside : ¬ (plant ≤ 3 ∧ station ≤ 3 ∧ flow ≤ 3 ∧ service ≤ 3 ∧ 1 ≤ threshold ∧ threshold ≤ 3)) :
    execAlertSet s = .next (s.takeRequest.refuse .badArg) := by
  rcases Nat.lt_or_ge enables 4096 with known | unknown
  · simp only [execAlertSet, head, causeSet_eq_some known, if_neg outside]
  · exact execAlertSet_refuses_unknown head unknown

theorem execAlertSet_writes (head : s.headRequest = some (.alertSet enables plant station flow service threshold))
    (known : enables < 4096)
    (inside : plant ≤ 3 ∧ station ≤ 3 ∧ flow ≤ 3 ∧ service ≤ 3 ∧ 1 ≤ threshold ∧ threshold ≤ 3) :
    execAlertSet s = .next ({ s.takeRequest with alert :=
      { flags := s.alert.flags, enables := BitVec.ofNat 12 enables, plant := plant, station := station, flow := flow
        service := service, threshold := threshold } }.answer .ok .empty) := by
  simp only [execAlertSet, head, causeSet_eq_some known, if_pos inside, State.takeRequest_alert]

end

/-- Settles O45: asserting groups cause by cause, and the fold over the groups as the first pending one. -/
theorem alertLineAndReadFollowTheGroups : Obligations.AlertLineAndReadFollowTheGroups := by
  unfold Obligations.AlertLineAndReadFollowTheGroups
  refine ⟨?_, ?_⟩
  · intro group
    have group_eq : group = groupOf := by funext c; cases c <;> rfl
    rw [group_eq]
    exact ⟨asserting_iff, line_iff, exists_cause_of_line, by decide⟩
  · intro order
    have order_eq : order = place := by funext g; cases g <;> rfl
    rw [order_eq]
    exact ⟨fun _ head => execAlertRead_answers head,
      fun _ => ⟨firstPending_eq_none_iff, fun _ => firstPending_eq_some_iff⟩⟩

/-- Settles O46: the refusals and the writes of ALERT_ACK and ALERT_SET, with the written sets read bit by bit. -/
theorem alertAckAndSet : Obligations.AlertAckAndSet := by
  unfold Obligations.AlertAckAndSet
  constructor
  · intro s causes head
    exact ⟨execAlertAck_refuses head,
      fun known => ⟨_, cleared_getLsbD_bit s.alert.flags causes, execAlertAck_clears head known⟩⟩
  · intro s enables plant station flow service threshold head
    refine ⟨fun wrong => ?_, fun known hPlant hStation hFlow hService hLow hHigh => ?_⟩
    · rcases wrong with unknown | outside
      · exact execAlertSet_refuses_unknown head unknown
      · exact execAlertSet_refuses_range head (by omega)
    · exact ⟨_, causeSet_ofNat_getLsbD_bit enables,
        execAlertSet_writes head known ⟨hPlant, hStation, hFlow, hService, hLow, hHigh⟩⟩

end Sys2Proof.Machine.AlertLaws
end

section
/-! ## A step and the waiting commands (95; log entries 1, 4 and 5)

Every meaning answers a next state, and the only thing that takes a command from the queue is the step itself: no operation
of the part writes `State.pending`. Each shared operation gets the equation that says so, and each command's meaning is
followed along its branches with these equations. -/

namespace Sys2Proof.Machine.QueueLaws

/-! ### The step -/

/-- Settles O1: the step's two branches, by what waits. -/
theorem stepRunsFrontCommand : Obligations.StepRunsFrontCommand := by
  unfold Obligations.StepRunsFrontCommand
  constructor
  · intro s c rest waits
    simp only [step, waits]
  · intro s idle
    simp only [step, idle]

/-! ### Shared operations leave the queue alone -/

section
variable (s : State)

/-! #### Holds, reads and posts -/

@[simp] theorem updateAcquires_pending (slot : Nat) (r : BurstResult) :
    (s.updateAcquires slot r).pending = s.pending := by
  rcases State.updateAcquires_cases slot r s with ⟨-, e⟩ | ⟨-, e⟩ <;> simp [e]

@[simp] theorem commandAcquires_pending (slot : Nat) (r : Request) :
    (s.commandAcquires slot r).pending = s.pending := by
  rcases State.commandAcquires_cases slot r s with ⟨-, e⟩ | ⟨-, e⟩ <;> simp [e]

@[simp] theorem timerAcquires_pending (slot : Nat) (e : DeadlineEntry) :
    (s.timerAcquires slot e).pending = s.pending := by
  rcases State.timerAcquires_cases slot e s with ⟨-, e⟩ | ⟨-, e⟩ <;> simp [e]

@[simp] theorem updateReads_pending (slot : Nat) (r : BurstResult) : (s.updateReads slot r).pending = s.pending := by
  simp [State.updateReads]

@[simp] theorem commandReads_pending (slot : Nat) (r : Request) : (s.commandReads slot r).pending = s.pending := by
  simp [State.commandReads]

@[simp] theorem timerReads_pending (slot : Nat) (e : DeadlineEntry) : (s.timerReads slot e).pending = s.pending := by
  simp [State.timerReads]

@[simp] theorem walkEnds_pending : s.walkEnds.pending = s.pending := by simp [State.walkEnds]

@[simp] theorem walkOn_pending (slot : Nat) : (s.walkOn slot).pending = s.pending := by
  unfold State.walkOn
  split
  · rfl
  · simp

@[simp] theorem commandPosted_pending (work : Request) (slot : Nat) :
    (s.commandPosted work slot).pending = s.pending := by
  rcases State.commandPosted_cases work slot s with ⟨-, e⟩ | ⟨-, -, e⟩ | ⟨-, -, e⟩ <;> simp [e]

@[simp] theorem updatePosts_pending (r : BurstResult) (p : Post) : (s.updatePosts r p).pending = s.pending := by
  rcases State.updatePosts_cases r p s with ⟨-, e⟩ | ⟨-, e⟩ <;> simp [e]

@[simp] theorem commandPosts_pending (work : Request) (p : Post) : (s.commandPosts work p).pending = s.pending := by
  rcases State.commandPosts_cases work p s with ⟨-, e⟩ | ⟨-, e⟩ <;> simp [e]

@[simp] theorem timerPosts_pending (e : DeadlineEntry) (p : Post) : (s.timerPosts e p).pending = s.pending := by
  rcases State.timerPosts_cases e p s with ⟨-, e⟩ | ⟨-, e⟩ <;> simp [e]

/-- `State.offerHeld_pending` for a pair that is not written out. -/
@[simp] theorem offerHeld_fst_pending (make : Bool → Report) (sg : State × GapTrack) :
    (State.offerHeld make sg).1.pending = sg.1.pending := State.offerHeld_pending sg.1 sg.2 make

/-! #### Station requests -/

@[simp] theorem beginRequest_pending (sound : Bool) (slot : Nat) (request : Request) :
    (s.beginRequest sound slot request).pending = s.pending := by
  unfold State.beginRequest
  split <;> simp

@[simp] theorem reportAndPost_pending (work : Request) (slot : Nat) (old new : StationState) (reason : StateReason)
    (image : Record) (deadline : DeadlineChange) (released taken : Option ProfileId) (sg : State × GapTrack) :
    (State.reportAndPost work slot old new reason image deadline released taken sg).pending = sg.1.pending := by
  simp [State.reportAndPost]

@[simp] theorem offerMoveWithdrawn_pending (slot : Nat) (image : Record) :
    (s.offerMoveWithdrawn slot image).1.pending = s.pending := by
  unfold State.offerMoveWithdrawn
  split <;> simp

/-! #### Slips and stops -/

@[simp] theorem slip_pending (reportOrder unitOrder : List LaneId) :
    (s.slip reportOrder unitOrder).pending = s.pending := by simp [State.slip]

@[simp] theorem stopLane_pending (l : LaneId) : (s.stopLane l).pending = s.pending := by simp [State.stopLane]

@[simp] theorem raiseTransition_pending (change : StormTransition) : (s.raiseTransition change).pending = s.pending := by
  cases change <;> rfl

/-! #### Grants, lookups and results -/

@[simp] theorem refuseGrant_pending (r : GrantRefusedReport) : (s.refuseGrant r).pending = s.pending := by
  simp [State.refuseGrant]

@[simp] theorem beginLookup_pending (l : LaneId) (g : Grant) : (s.beginLookup l g).pending = s.pending := by
  unfold State.beginLookup
  split <;> simp

@[simp] theorem handOver_pending (l : LaneId) (g : Grant) : (s.handOver l g).pending = s.pending := by
  unfold State.handOver
  split <;> simp

@[simp] theorem completeLookup_pending (l : LaneId) (start : Time) (slot : Nat) (image : Record) :
    (s.completeLookup l start slot image).pending = s.pending := by
  unfold State.completeLookup
  split
  · rfl
  · extract_lets r received
    have kept : received.pending = s.pending := rfl
    split
    · rw [State.raise_pending, kept]
    · exact kept

@[simp] theorem offerResult_pending (l : LaneId) (g : Grant) (r : BurstResult) :
    (s.offerResult l g r).pending = s.pending := by
  unfold State.offerResult
  split <;> simp

/-! #### The update engine -/

@[simp] theorem reportUnheld_pending (r : BurstResult) : (s.reportUnheld r).pending = s.pending := by
  unfold State.reportUnheld
  split
  · split <;> simp
  · simp

section
variable (sg : State × GapTrack)

@[simp] theorem offerAbsorbed_pending (slot : Nat) (image : Record) (cls : BurstClass) (start : Time) :
    (State.offerAbsorbed slot image cls start sg).1.pending = sg.1.pending := by
  unfold State.offerAbsorbed
  split <;> simp

@[simp] theorem offerCorrection_pending (slot : Nat) (image : Record) (w : Worked) (calls : Bool) :
    (State.offerCorrection slot image w calls sg).1.1.pending = sg.1.pending := by
  unfold State.offerCorrection
  split
  · dsimp only
    split <;> simp
  · rfl

@[simp] theorem offerIf_pending (called : Bool) (make : Bool → Report) :
    (State.offerIf called make sg).1.pending = sg.1.pending := by
  unfold State.offerIf
  split <;> simp

@[simp] theorem offerChange_pending (slot : Nat) (old : StationState) (c : Counted) :
    (State.offerChange slot old c sg).1.pending = sg.1.pending := by
  unfold State.offerChange
  split
  · rfl
  · rw [State.offerHeld_pending]
    split <;> simp

@[simp] theorem finishResult_pending (slot : Nat) (r : BurstResult) (old : StationState) (image : Record) (c : Counted)
    (deadline : DeadlineChange) (report : BurstReport) (issued : Bool) :
    (State.finishResult slot r old image c deadline report issued sg).pending = sg.1.pending := by
  simp [State.finishResult]

end

@[simp] theorem processClean_pending (slot : Nat) (r : BurstResult) (image : Record) (m : Measurement) (trained : TapSet) :
    (s.processClean slot r image m trained).pending = s.pending := by simp [State.processClean]

@[simp] theorem processMissed_pending (slot : Nat) (r : BurstResult) (image : Record) :
    (s.processMissed slot r image).pending = s.pending := by simp [State.processMissed]

/-! #### Sweeps -/

@[simp] theorem sweepReads_pending (r : SweepRun) : (s.sweepReads r).pending = s.pending := by
  unfold State.sweepReads
  split
  · rfl
  · simp

@[simp] theorem offerFrame_pending (r : SweepRun) : (s.offerFrame r).pending = s.pending := by simp [State.offerFrame]

@[simp] theorem sweepProceeds_pending (r : SweepRun) : (s.sweepProceeds r).pending = s.pending := by
  unfold State.sweepProceeds
  split
  · split <;> simp
  · simp

@[simp] theorem completeSweepRead_pending (slot : Nat) (image : Record) (granted : Time) :
    (s.completeSweepRead slot image granted).pending = s.pending := by
  unfold State.completeSweepRead
  split
  · split <;> simp
  · rfl

@[simp] theorem sweepStops_pending (result : SweepResult) (r : SweepRun) :
    (s.sweepStops result r).pending = s.pending := rfl

/-! #### A completed read -/

@[simp] theorem updateReceives_pending (slot : Nat) (image : Record) :
    (s.updateReceives slot image).pending = s.pending := by
  unfold State.updateReceives
  split
  · split <;> rfl
  · rfl

@[simp] theorem commandReceives_pending (slot : Nat) (image : Record) :
    (s.commandReceives slot image).pending = s.pending := by
  unfold State.commandReceives
  split
  · split <;> rfl
  · rfl

@[simp] theorem timerReceives_pending (slot : Nat) (image : Record) :
    (s.timerReceives slot image).pending = s.pending := by
  unfold State.timerReceives
  split
  · split <;> rfl
  · rfl

@[simp] theorem deliver_pending (who : Option Requester) (slot : Nat) (image : Record) (granted : Time) :
    (s.deliver who slot image granted).pending = s.pending := by
  unfold State.deliver
  split <;> simp

end

/-! ### Every command completes and leaves the queue alone -/

/-- The outcome is a next state, and the commands that wait in it are those that waited before. -/
def KeepsQueue (s : State) (o : Result) : Prop := ∃ t, o = .next t ∧ t.pending = s.pending

theorem KeepsQueue.next {s t : State} (same : t.pending = s.pending) : KeepsQueue s (.next t) := ⟨t, rfl, same⟩

section
variable (s : State)

/-! #### Reset, clock and grant intake -/

theorem execReset_keepsQueue : KeepsQueue s (execReset s) := .next rfl

theorem execTick_keepsQueue : KeepsQueue s (execTick s) := .next rfl

theorem execSyncPulse_keepsQueue (a b : List LaneId) : KeepsQueue s (execSyncPulse a b s) := by
  unfold execSyncPulse
  refine .next ?_
  split
  · rfl
  · dsimp only
    split
    · split <;> simp
    · rfl

theorem execClockSet_keepsQueue : KeepsQueue s (execClockSet s) := by
  unfold execClockSet
  refine .next ?_
  split <;> simp

theorem execGrantNotice_keepsQueue (frame : List Byte) : KeepsQueue s (execGrantNotice frame s) := by
  unfold execGrantNotice State.judgeNotice
  refine .next ?_
  split
  · simp
  · split <;> simp

theorem execGrantHandover_keepsQueue (l : LaneId) : KeepsQueue s (execGrantHandover l s) := by
  unfold execGrantHandover
  refine .next ?_
  split
  · rfl
  · split
    · dsimp only
      split <;> simp
    · rfl

/-! #### Lanes and noise monitors -/

theorem execLaneSet_keepsQueue : KeepsQueue s (execLaneSet s) := by
  unfold execLaneSet
  refine .next ?_
  split
  · dsimp only
    split
    · split <;> simp
    · simp
  · rfl

theorem execLaneStart_keepsQueue : KeepsQueue s (execLaneStart s) := by
  unfold execLaneStart
  refine .next ?_
  split
  · dsimp only
    split
    · split <;> simp
    · simp
  · rfl

theorem execLaneStop_keepsQueue : KeepsQueue s (execLaneStop s) := by
  unfold execLaneStop
  refine .next ?_
  split
  · split <;> simp
  · rfl

theorem execLookupReadComplete_keepsQueue (k : BankId) : KeepsQueue s (execLookupReadComplete k s) := by
  unfold execLookupReadComplete
  refine .next ?_
  split <;> simp

theorem execWindowOpen_keepsQueue (l : LaneId) : KeepsQueue s (execWindowOpen l s) := by
  unfold execWindowOpen
  refine .next ?_
  split
  · rfl
  · split <;> simp

theorem execBurstComplete_keepsQueue (l : LaneId) (x : Samples) : KeepsQueue s (execBurstComplete l x s) := by
  unfold execBurstComplete
  refine .next ?_
  split
  · rfl
  · split
    · rfl
    · split <;> simp

theorem execSymbolUnitEmitted_keepsQueue : KeepsQueue s (execSymbolUnitEmitted s) := .next rfl

theorem execQuietStart_keepsQueue (l : LaneId) : KeepsQueue s (execQuietStart l s) := by
  unfold execQuietStart
  refine .next ?_
  split <;> rfl

theorem execQuietGrantDone_keepsQueue (l : LaneId) : KeepsQueue s (execQuietGrantDone l s) := by
  unfold execQuietGrantDone
  refine .next ?_
  split <;> rfl

theorem execNoiseLatch_keepsQueue (l : LaneId) (power : Int) : KeepsQueue s (execNoiseLatch l power s) := by
  unfold execNoiseLatch
  refine .next ?_
  split <;> simp

theorem execIntervalMark_keepsQueue (l : LaneId) : KeepsQueue s (execIntervalMark l s) := .next rfl

theorem execNoiseMode_keepsQueue : KeepsQueue s (execNoiseMode s) := by
  unfold execNoiseMode
  refine .next ?_
  split
  · dsimp only
    split
    · split <;> simp
    · simp
  · rfl

theorem execNoiseStatus_keepsQueue : KeepsQueue s (execNoiseStatus s) := by
  unfold execNoiseStatus
  refine .next ?_
  split
  · dsimp only
    split <;> simp
  · rfl

/-! #### The store, the deadline list and the update engine -/

theorem execBankReadComplete_keepsQueue (k : BankId) : KeepsQueue s (execBankReadComplete k s) := by
  unfold execBankReadComplete
  refine .next ?_
  split <;> simp

theorem execDrain_keepsQueue (k : BankId) : KeepsQueue s (execDrain k s) := by
  unfold execDrain
  refine .next ?_
  split <;> simp

theorem execPostTakesEntry_keepsQueue (k : BankId) : KeepsQueue s (execPostTakesEntry k s) := by
  unfold execPostTakesEntry
  refine .next ?_
  split
  · split
    · simp
    · split
      · simp
      · split <;> simp
  · rfl

theorem execHoldTaken_keepsQueue (slot : Nat) : KeepsQueue s (execHoldTaken slot s) := by
  unfold execHoldTaken
  refine .next ?_
  split
  · split
    · simp
    · split
      · simp
      · split <;> simp
  · rfl

theorem execDeadlineExpire_keepsQueue (slot : Nat) : KeepsQueue s (execDeadlineExpire slot s) := .next rfl

theorem execWithdrawalStart_keepsQueue : KeepsQueue s (execWithdrawalStart s) := by
  unfold execWithdrawalStart
  refine .next ?_
  split
  · split <;> simp
  · rfl

theorem execCorrectionWithdraw_keepsQueue : KeepsQueue s (execCorrectionWithdraw s) := by
  unfold execCorrectionWithdraw
  refine .next ?_
  split
  · split <;> simp
  · rfl

theorem execUpdateTakeResult_keepsQueue : KeepsQueue s (execUpdateTakeResult s) := by
  unfold execUpdateTakeResult
  refine .next ?_
  split
  · split
    · rfl
    · dsimp only
      split <;> simp
  · rfl

theorem execUpdateProcess_keepsQueue : KeepsQueue s (execUpdateProcess s) := by
  unfold execUpdateProcess
  refine .next ?_
  split
  · split
    · simp
    · split <;> simp
  · rfl

/-! #### The station link, the profiles and the alert unit -/

theorem execRequestArrival_keepsQueue (frame : List Byte) : KeepsQueue s (execRequestArrival frame s) := by
  unfold execRequestArrival
  refine .next ?_
  split <;> rfl

theorem execBadRequest_keepsQueue : KeepsQueue s (execBadRequest s) := by
  unfold execBadRequest
  refine .next ?_
  split
  · split <;> simp
  · rfl

theorem execOutgoingFrameEnd_keepsQueue : KeepsQueue s (execOutgoingFrameEnd s) := by
  unfold execOutgoingFrameEnd
  refine .next ?_
  split <;> simp

theorem execProfileSet_keepsQueue : KeepsQueue s (execProfileSet s) := by
  unfold execProfileSet
  refine .next ?_
  split
  · dsimp only
    split
    · simp
    · split
      · simp
      · split <;> simp
  · rfl

theorem execProfileGet_keepsQueue : KeepsQueue s (execProfileGet s) := by
  unfold execProfileGet
  refine .next ?_
  split
  · dsimp only
    split <;> simp
  · rfl

theorem execAlertRead_keepsQueue : KeepsQueue s (execAlertRead s) := by
  unfold execAlertRead
  refine .next ?_
  split <;> simp

theorem execAlertAck_keepsQueue : KeepsQueue s (execAlertAck s) := by
  unfold execAlertAck
  refine .next ?_
  split
  · dsimp only
    split <;> simp
  · rfl

theorem execAlertSet_keepsQueue : KeepsQueue s (execAlertSet s) := by
  unfold execAlertSet
  refine .next ?_
  split
  · dsimp only
    split
    · simp
    · split <;> simp
  · rfl

/-! #### Station requests (R16): with the record in hand, or taken from the request queue -/

theorem execAdmit_keepsQueue : KeepsQueue s (execAdmit s) := by
  unfold execAdmit
  refine .next ?_
  split
  · split
    · split
      · simp
      · split <;> simp
    · simp
  · split <;> simp

theorem execRetire_keepsQueue : KeepsQueue s (execRetire s) := by
  unfold execRetire
  refine .next ?_
  split
  · split <;> simp
  · split <;> simp

theorem execMove_keepsQueue : KeepsQueue s (execMove s) := by
  unfold execMove
  refine .next ?_
  split
  · split
    · simp
    · split <;> simp
  · split <;> simp

theorem execRecover_keepsQueue : KeepsQueue s (execRecover s) := by
  unfold execRecover
  refine .next ?_
  split
  · split
    · simp
    · split <;> simp
  · split <;> simp

theorem execAmend_keepsQueue : KeepsQueue s (execAmend s) := by
  unfold execAmend
  refine .next ?_
  split
  · split
    · simp
    · split
      · simp
      · split <;> simp
  · split <;> simp

theorem execFetch_keepsQueue : KeepsQueue s (execFetch s) := by
  unfold execFetch
  refine .next ?_
  split
  · split
    · simp
    · split <;> simp
  · split
    · split <;> simp
    · rfl

theorem execMapTags_keepsQueue : KeepsQueue s (execMapTags s) := by
  unfold execMapTags
  refine .next ?_
  split
  · split <;> simp
  · split <;> simp

theorem execUnmapTags_keepsQueue : KeepsQueue s (execUnmapTags s) := by
  unfold execUnmapTags
  refine .next ?_
  split
  · split
    · simp
    · split <;> simp
  · split <;> simp

theorem execClearAll_keepsQueue : KeepsQueue s (execClearAll s) := by
  unfold execClearAll
  refine .next ?_
  split <;> rfl

theorem execClearAllSlot_keepsQueue : KeepsQueue s (execClearAllSlot s) := by
  unfold execClearAllSlot
  refine .next ?_
  split
  · simp
  · split <;> simp
  · rfl

theorem execDelivered_keepsQueue : KeepsQueue s (execDelivered s) := by
  unfold execDelivered
  refine .next ?_
  split
  · split <;> simp
  · split
    · split <;> simp
    · rfl

/-! #### Sweeps -/

theorem execSweep_keepsQueue : KeepsQueue s (execSweep s) := by
  unfold execSweep
  refine .next ?_
  split
  · dsimp only
    split
    · simp
    · split
      · simp
      · split <;> simp
  · rfl

theorem execSweepStop_keepsQueue : KeepsQueue s (execSweepStop s) := by
  unfold execSweepStop
  refine .next ?_
  split
  · split <;> simp
  · rfl

theorem execSweepStatus_keepsQueue : KeepsQueue s (execSweepStatus s) := by
  unfold execSweepStatus
  refine .next ?_
  split <;> simp

theorem execSweepReadComplete_keepsQueue : KeepsQueue s (execSweepReadComplete s) := by
  unfold execSweepReadComplete
  refine .next ?_
  split <;> simp

theorem execSweepFrameOffer_keepsQueue : KeepsQueue s (execSweepFrameOffer s) := by
  unfold execSweepFrameOffer
  refine .next ?_
  split
  · split <;> simp
  · rfl

theorem execSweepEnd_keepsQueue : KeepsQueue s (execSweepEnd s) := by
  unfold execSweepEnd
  refine .next ?_
  split
  · split <;> simp
  · rfl

theorem execSweepDeadlineExpire_keepsQueue : KeepsQueue s (execSweepDeadlineExpire s) := by
  unfold execSweepDeadlineExpire
  refine .next ?_
  split
  · split <;> simp
  · rfl

end

/-- Settles O2: command by command; none stops, and none writes the queue. -/
theorem everyCommandCompletesAndKeepsTheQueue : Obligations.EveryCommandCompletesAndKeepsTheQueue := by
  unfold Obligations.EveryCommandCompletesAndKeepsTheQueue
  intro c s
  cases c with
  | reset => exact execReset_keepsQueue s
  | tick => exact execTick_keepsQueue s
  | syncPulse reportOrder unitOrder => exact execSyncPulse_keepsQueue s reportOrder unitOrder
  | grantNotice frame => exact execGrantNotice_keepsQueue s frame
  | grantHandover lane => exact execGrantHandover_keepsQueue s lane
  | lookupReadComplete bank => exact execLookupReadComplete_keepsQueue s bank
  | windowOpen lane => exact execWindowOpen_keepsQueue s lane
  | burstComplete lane samples => exact execBurstComplete_keepsQueue s lane samples
  | symbolUnitEmitted => exact execSymbolUnitEmitted_keepsQueue s
  | quietStart lane => exact execQuietStart_keepsQueue s lane
  | quietGrantDone lane => exact execQuietGrantDone_keepsQueue s lane
  | noiseLatch lane power => exact execNoiseLatch_keepsQueue s lane power
  | intervalMark lane => exact execIntervalMark_keepsQueue s lane
  | bankReadComplete bank => exact execBankReadComplete_keepsQueue s bank
  | drain bank => exact execDrain_keepsQueue s bank
  | postTakesEntry bank => exact execPostTakesEntry_keepsQueue s bank
  | holdTaken slot => exact execHoldTaken_keepsQueue s slot
  | updateTakeResult => exact execUpdateTakeResult_keepsQueue s
  | updateProcess => exact execUpdateProcess_keepsQueue s
  | deadlineExpire slot => exact execDeadlineExpire_keepsQueue s slot
  | withdrawalStart => exact execWithdrawalStart_keepsQueue s
  | correctionWithdraw => exact execCorrectionWithdraw_keepsQueue s
  | requestArrival frame => exact execRequestArrival_keepsQueue s frame
  | badRequest => exact execBadRequest_keepsQueue s
  | admitStation => exact execAdmit_keepsQueue s
  | retire => exact execRetire_keepsQueue s
  | move => exact execMove_keepsQueue s
  | recover => exact execRecover_keepsQueue s
  | amend => exact execAmend_keepsQueue s
  | fetch => exact execFetch_keepsQueue s
  | mapTags => exact execMapTags_keepsQueue s
  | unmapTags => exact execUnmapTags_keepsQueue s
  | clearAll => exact execClearAll_keepsQueue s
  | clearAllSlot => exact execClearAllSlot_keepsQueue s
  | delivered => exact execDelivered_keepsQueue s
  | profileSet => exact execProfileSet_keepsQueue s
  | profileGet => exact execProfileGet_keepsQueue s
  | laneSet => exact execLaneSet_keepsQueue s
  | laneStart => exact execLaneStart_keepsQueue s
  | laneStop => exact execLaneStop_keepsQueue s
  | noiseMode => exact execNoiseMode_keepsQueue s
  | noiseStatus => exact execNoiseStatus_keepsQueue s
  | clockSet => exact execClockSet_keepsQueue s
  | sweep => exact execSweep_keepsQueue s
  | sweepStop => exact execSweepStop_keepsQueue s
  | sweepStatus => exact execSweepStatus_keepsQueue s
  | sweepReadComplete => exact execSweepReadComplete_keepsQueue s
  | sweepFrameOffer => exact execSweepFrameOffer_keepsQueue s
  | sweepEnd => exact execSweepEnd_keepsQueue s
  | sweepDeadlineExpire => exact execSweepDeadlineExpire_keepsQueue s
  | alertRead => exact execAlertRead_keepsQueue s
  | alertAck => exact execAlertAck_keepsQueue s
  | alertSet => exact execAlertSet_keepsQueue s
  | outgoingFrameEnd => exact execOutgoingFrameEnd_keepsQueue s

end Sys2Proof.Machine.QueueLaws
end
